-- ==== Sys2Proof/Word.lean ====
section
/-! DEFINITION. The part's bytes, its fixed tables of records, and the identifiers of its objects (00 Conventions). -/

namespace Sys2Proof

/-- A byte of the serial line or of a payload (10 R168). -/
abbrev Byte := BitVec 8

/-- A fixed number of like records, indexed from 0 (00 Identifiers). -/
abbrev Tab (α : Type) (n : Nat) := Vector α n

/-- The table with one record replaced. -/
def Tab.put {α : Type} {n : Nat} (t : Tab α n) (i : Fin n) (x : α) : Tab α n :=
  t.set i.val x i.isLt

@[simp] theorem Tab.get_put {α : Type} {n : Nat} (t : Tab α n) (i j : Fin n) (x : α) :
    (t.put i x)[j] = if i = j then x else t[j] := by
  simp only [Tab.put, Fin.getElem_fin, Vector.getElem_set, Fin.ext_iff]

@[simp] theorem Tab.put_get {α : Type} {n : Nat} (t : Tab α n) (i : Fin n) : t.put i t[i] = t := by
  simp only [Tab.put, Fin.getElem_fin, Vector.set_getElem_self]

theorem Tab.ext_get {α : Type} {n : Nat} {t u : Tab α n} (h : ∀ i : Fin n, t[i] = u[i]) : t = u :=
  Vector.ext fun i hi => h ⟨i, hi⟩

/-- Lanes L0 to L3. -/
abbrev LaneId := Fin 4
/-- Zones Z0 to Z15. -/
abbrev ZoneId := Fin 16
/-- Layers 0 to 47. -/
abbrev LayerId := Fin 48
/-- Tracks T0 to T63. -/
abbrev TrackId := Fin 64
/-- Players P0 to P15. -/
abbrev PlayerId := Fin 16
/-- Bindings B0 to B31. -/
abbrev BindingId := Fin 32
/-- Input lines IN0 to IN7. -/
abbrev LineId := Fin 8
/-- Calibration sets W0 to W7 and F0 to F7. -/
abbrev SetId := Fin 8
/-- Pattern blocks 0 to 127. -/
abbrev BlockId := Fin 128
/-- The slots 0 to 15 of a pattern block. -/
abbrev SlotId := Fin 16
/-- The sense channels: 0 to 3 are TH0 to TH3, 4 is AMB, 5 is SUP (09 R153). -/
abbrev ChannelId := Fin 6

end Sys2Proof
end

