-- ==== Sys2Proof/Syntax.lean ====
section
/-! DEFINITION. The commands the part takes: one constructor for each row of spec/opcode_table.json, with what the
outside brings to that occurrence as its operands. -/

namespace Sys2Proof

/-- One byte received on the line (10 R168, R170): its eight data bits, whether its stop bit was low, and the moment
its stop bit ended, in µs. -/
structure RxByte where
  data : Byte
  framingError : Bool
  endsAt : Nat
  deriving DecidableEq, Repr

/-- How a segment from one keyframe to the next is weighted (02 R24, 04 R59). -/
inductive Ease where
  | step | linear | smooth
  deriving DecidableEq, Repr, Inhabited

/-- What a storage upset leaves in a slot (04 R70): the stored fields, and the bits of the stored check code that it
flips. -/
structure Upset where
  time : BitVec 16
  red : BitVec 12
  green : BitVec 12
  blue : BitVec 12
  coverage : Byte
  ease : Ease
  codeFlip : BitVec 16
  deriving DecidableEq, Repr

/-- The parts of one device tick that the spec lets come in any order: the fade of a layer (03 R43), the tick of a player
(05 R80), the sample of an input line (06 R101), of the thumbwheel (06 R105) and of one sense channel (09 R153), the
step of the sense phase (09 R153), and the waking count (11 R187). -/
inductive TickPart where
  | fade (l : LayerId)
  | player (p : PlayerId)
  | line (i : LineId)
  | wheel
  | channel (c : ChannelId)
  | sense
  | waking
  deriving DecidableEq, Repr

/-- The orders inside one step that the spec leaves open. `triggerFirst`: a player's end or a band entry reaches the
trigger unit before its notice is posted (05 R83, 09 R162). `lanesFirst`: the lanes whose resumes are taken first, in
this order, the others following in ascending number (09 9.4, 11 R188). `resumeFirst`: on the entry to ACTIVE the lanes
resume before the pending wake events are delivered (11 R188). -/
structure Choices where
  triggerFirst : Bool
  lanesFirst : List LaneId
  resumeFirst : Bool
  deriving DecidableEq, Repr

/-- What the cabin shows the part at one device tick: the level of each input line (bit n is INn), the pair WA WB (WA is
bit 1), the six sense codes (used when the tick is a sense tick), and the parts of the tick that are taken first, in
this order, each with its own choices. -/
structure TickInput where
  lines : BitVec 8
  wheel : BitVec 2
  codes : Tab (BitVec 12) 6
  order : List (TickPart × Choices)
  deriving DecidableEq, Repr

/-- The commands: one constructor for each row of the table, in the table's order. A link command has no operand of its
own: its fields are the payload of the message that it takes from the command input buffer (10 R173). -/
inductive Instr where
  | powerOnReset
  | messageReceived (rx : List RxByte)
  | receiveFault (rx : List RxByte)
  | interByteTimeout
  | dispatchBadKind
  | replyQueueJoin
  | transmitGrant
  | statusRead
  | restart
  | restartReset
  | sleep
  | standbyEntry
  | wake
  | wakingComplete (ch : Choices)
  | noticeMask
  | laneSetup
  | laneEnable
  | laneDisable
  | laneDisableComplete (l : LaneId) (answer : BitVec 24)
  | laneRead
  | nodeHold
  | nodeFaultsRead
  | groupPeriod
  | zoneDefine
  | zoneClear
  | zoneRead
  | layerPlace
  | layerLift
  | layerSet
  | layerShow
  | layerHide
  | stackRead
  | trackCreate
  | keysWrite
  | keysWriteHeldApply
  | keysRead
  | trackFree
  | memoryRead
  | storageUpset (b : BlockId) (k : SlotId) (u : Upset)
  | playerSetup
  | playerStart
  | playerArm
  | playerStop
  | playerRead
  | lineSetup
  | bind
  | unbind
  | eventInject
  | inputsRead
  | calWrite
  | calRestore
  | workingSetHeldApply
  | calRead
  | curveWrite
  | dimmerSet
  | bandFactors
  | budgetSet
  | monitorSet
  | senseRead
  | deviceTick (inp : TickInput)
  | fadeEnd (l : LayerId)
  | holdPointReached (p : PlayerId)
  | windowExpiry (p : PlayerId)
  | wrap (p : PlayerId)
  | tailEntry (p : PlayerId) (ch : Choices)
  | tailRunOut (p : PlayerId) (ch : Choices)
  | lineEdge (i : LineId)
  | detent (pair : BitVec 2)
  | senseTick (codes : Tab (BitVec 12) 6) (ch : Choices)
  | thermalStateChange (l : LaneId) (code : BitVec 12)
  | supplyStateChange (code : BitVec 12) (ch : Choices)
  | bandEntry (code : BitVec 12) (ch : Choices)
  | groupTick
  | soloTick (l : LaneId)
  | directSlotDue (l : LaneId)
  | returnWindowEnd (l : LaneId) (answer : BitVec 24)
  | nodeCompose
  | composeJobComplete
  | byteReceived (b : RxByte)
  deriving DecidableEq, Repr

end Sys2Proof
end

