-- ==== Sys2Proof/Decode.lean ====
section
/-! DEFINITION. The table of commands gives no row a word: no number of bits spells a command (log 10). -/

namespace Sys2Proof

/-- The command that a word of `nbits` bits spells: none, since spec/opcode_table.json gives no row bits (log 10). -/
def decodeTableWord (_nbits _w : Nat) : Option Instr := none

end Sys2Proof
end

