-- ==== Sys2Proof/Config.lean ====
section
/-! DEFINITION. What the manual leaves to production or does not give: the factory calibration sets and the check code of
a slot. Both are constants with no body: nothing can be proved of their values. -/

namespace Sys2Proof

/-- The fifteen values of a calibration set (07 R118). The matrix is listed row by row, output component first; the
coefficients are signed, in units of 1/4096; the currents are in units of 0.1 mA. -/
structure CalSet where
  mRR : Int
  mRG : Int
  mRB : Int
  mGR : Int
  mGG : Int
  mGB : Int
  mBR : Int
  mBG : Int
  mBB : Int
  kR : Int
  kG : Int
  kB : Int
  iR : Nat
  iG : Nat
  iB : Nat
  deriving DecidableEq, Repr, Inhabited

/-- The values that production wrote into factory set Fn (07 R119), before they are brought into the ranges of R118.
DESIGN CHOICE, log 8: the manual does not print them. -/
opaque Config.factoryValues : Fin 8 → CalSet

/-- The 16-bit check code of a slot: a function of its block, its slot number, and the time, colour, coverage and ease it
holds (04 R70). DESIGN CHOICE, log 7: the manual does not give the polynomial. -/
opaque Config.checkCode (block slot time red green blue coverage : Nat) (ease : Ease) : BitVec 16

end Sys2Proof
end

