-- ==== Sys2Proof/Machine/State.lean ====
section
/-! DEFINITION. The state of the part: every record of every block, as plain data, and its values after a reset. -/

namespace Sys2Proof.Machine

/-! ### Colours and geometry (00 Colour, 01) -/

/-- A linear RGB colour, or the three duties of a node: 12 bits a component (00 Colour). -/
structure RGB where
  r : Nat
  g : Nat
  b : Nat
  deriving DecidableEq, Repr, Inhabited

/-- Black, and the duties of a dark node. -/
def RGB.zero : RGB := ⟨0, 0, 0⟩

/-- The three bit rates of R1. -/
inductive BitRate where
  | r400k | r800k | r1600k
  deriving DecidableEq, Repr

/-- Which refresh tick a lane follows (R1). -/
inductive TimingMode where
  | grouped | solo | onDemand
  deriving DecidableEq, Repr

/-- Whether a whole buffer is composed before it is sent (R1). -/
inductive LatencyMode where
  | buffered | direct
  deriving DecidableEq, Repr

/-- The lane states of R130. -/
inductive LaneState where
  | disabled | starting | running | paused | stopping
  deriving DecidableEq, Repr

/-- What a slot carries, or an entry of a node buffer: HOLD, or three duties (R131). -/
inductive Entry where
  | hold
  | colour (c : RGB)
  deriving DecidableEq, Repr

/-- A run of positions: the first and how many. -/
structure Range where
  first : Nat
  count : Nat
  deriving DecidableEq, Repr

/-- The fault flags of a node, as the fault map records them: OPEN_R, OPEN_G, OPEN_B, SHORT and HOT in bits 0 to 4, and
NO_REPLY in bit 5 (R130, 10.7). -/
abbrev FaultFlags := BitVec 6

/-- A refresh frame in flight (R131). `slots` holds what each position's slot will carry, as far as it is known: `none`
for a position of a DIRECT frame whose entry the job has not handed over (R142). `fed` says that a job feeds the frame;
`closed` that the lane takes no further entry of it (R142); `lateSeen` that a late slot has come (R144). -/
structure Frame where
  beganAt : Nat
  blanked : Bool
  fed : Bool
  closed : Bool
  lateSeen : Bool
  nextSlot : Nat
  slots : List (Option Entry)
  deriving DecidableEq, Repr

/-- A lane record (R1, R130, R164). `frame` is the frame in flight; `darkOwed` says that a dark frame begins when it ends
(R138, R185); `darkSent` that a dark frame has begun since SLEEP was dispatched (R185); `soloDue` is the moment of the
next solo tick (R134). -/
structure Lane where
  nodeCount : Nat
  bitRate : BitRate
  timing : TimingMode
  latency : LatencyMode
  soloPeriod : Nat
  state : LaneState
  front : List Entry
  sentSinceEnable : Bool
  back : List Entry
  backReady : Bool
  lastSent : List (Option RGB)
  holdSet : List Range
  faults : List FaultFlags
  poll : Nat
  underruns : Nat
  armed : Bool
  scale : Nat
  budget : Nat
  derate : Nat
  frame : Option Frame
  darkOwed : Bool
  darkSent : Bool
  soloDue : Option Nat
  deriving DecidableEq, Repr

/-- What a node of the zone with a recorded fault receives (R8). -/
inductive FaultPolicy where
  | blankFaulty | showAll
  deriving DecidableEq, Repr

/-- A zone record (R8). -/
structure ZoneRec where
  defined : Bool
  lane : LaneId
  first : Nat
  count : Nat
  set : SetId
  trim : Nat
  policy : FaultPolicy
  deriving DecidableEq, Repr

/-! ### Layers (03) -/

/-- The states of a placed layer (R42). A FREE layer has no record. -/
inductive FadeState where
  | parked | rising | steady | falling
  deriving DecidableEq, Repr

/-- What a layer shows (R39): each source kind with the fields it uses. -/
inductive Source where
  | solid (a : RGB)
  | gradient (a b : RGB)
  | track (p : PlayerId)
  deriving DecidableEq, Repr

/-- How a layer combines in S2 (R28). -/
inductive Blend where
  | replace | add | max
  deriving DecidableEq, Repr

/-- The sweep orders of R21. -/
inductive SweepOrder where
  | linear | reverse | centreOut | interleaved
  deriving DecidableEq, Repr

/-- The record of a placed layer (R39). -/
structure LayerRec where
  state : FadeState
  zone : ZoneId
  priority : Nat
  source : Source
  blend : Blend
  opacity : Nat
  range : Option Range
  sweep : SweepOrder
  step : Nat
  fadeTime : Nat
  pos : Nat
  deriving DecidableEq, Repr

/-! ### Pattern memory (04) -/

/-- A keyframe slot (R59, R70). `mismatched` is the outcome of comparing the stored code with the computed one: a write
makes a slot whole and an upset makes it mismatched until it is written (log 7). -/
structure Slot where
  time : Nat
  colour : RGB
  coverage : Nat
  ease : Ease
  code : BitVec 16
  mismatched : Bool
  deriving DecidableEq, Repr

/-- The record of a track that is not FREE (R60). The overflow flag is set when `rewrite` is present, and `rewrite` is
then the rewrite position (R69). -/
structure Track where
  count : Nat
  chain : List BlockId
  times : List Nat
  damage : List Nat
  rewrite : Option Nat
  deriving DecidableEq, Repr

/-- Pattern memory: the slots of each block, the track table, and the free-block list (R59, R60, R62). -/
structure PatternMemory where
  blocks : Tab (Tab Slot 16) 128
  tracks : Tab (Option Track) 64
  free : List BlockId
  deriving DecidableEq, Repr

/-! ### Players (05) -/

inductive RunMode where
  | once | holdLast | loop
  deriving DecidableEq, Repr

inductive RetriggerPolicy where
  | ignore | replay | extend
  deriving DecidableEq, Repr

/-- The player states of R78. -/
inductive PlayerState where
  | idle | armed | running | paused | tail | holding | ended
  deriving DecidableEq, Repr

/-- A player's settings (R77). -/
structure Settings where
  track : Option TrackId
  mode : RunMode
  rate : Nat
  loops : Nat
  tail : Nat
  policy : RetriggerPolicy
  holdPoint : Option Nat
  window : Nat
  endNotice : Bool
  deriving DecidableEq, Repr

/-- A player record (R77). `elapsed` is E, in units of 1/256 ms. -/
structure Player where
  settings : Settings
  state : PlayerState
  elapsed : Nat
  holdPassed : Bool
  windowLeft : Option Nat
  staged : Option Settings
  deriving DecidableEq, Repr

/-! ### Cabin inputs and bindings (06) -/

inductive LineMode where
  | off | rise | fall | both
  deriving DecidableEq, Repr

/-- An input-line record (R100). `level` is the filtered level, true for high. -/
structure LineRec where
  mode : LineMode
  filter : Nat
  wake : Bool
  level : Option Bool
  changes : Nat
  deriving DecidableEq, Repr

inductive WheelDir where
  | up | down
  deriving DecidableEq, Repr

/-- The thumbwheel record (R104). `resync` says that the next sample only sets the last pair (R105, R115). -/
structure Wheel where
  lastPair : Option (BitVec 2)
  transitions : Int
  lastDir : Option WheelDir
  resync : Bool
  deriving DecidableEq, Repr

/-- A binding's action and its target (R109). -/
inductive BindAction where
  | start (p : PlayerId)
  | arm (p : PlayerId)
  | stop (p : PlayerId)
  | show (l : LayerId)
  | hide (l : LayerId)
  deriving DecidableEq, Repr

/-- A trigger source's number (R108). -/
abbrev SourceId := Fin 54

/-- The record of a binding that is IN_USE (R109). -/
structure Binding where
  enabled : Bool
  source : SourceId
  action : BindAction
  deriving DecidableEq, Repr

/-! ### Calibration (07) -/

inductive BandName where
  | day | dusk | night
  deriving DecidableEq, Repr

/-- The calibration store (R118, R119, R125, R127, R128). -/
structure CalStore where
  factory : Tab CalSet 8
  working : Tab CalSet 8
  curve : Tab Nat 64
  wheelIndex : Fin 64
  factorDay : Nat
  factorDusk : Nat
  factorNight : Nat
  deriving DecidableEq, Repr

/-! ### Sense monitor (09) -/

inductive ThermalState where
  | normal | derate | cutoff
  deriving DecidableEq, Repr

inductive SupplyState where
  | sag | normal | high
  deriving DecidableEq, Repr

/-- A lane's thermal record (R156). -/
structure ThermalRec where
  derateAt : Int
  cutoffAt : Int
  resumeBelow : Int
  persistence : Nat
  state : ThermalState
  hot : Nat
  warm : Nat
  cool : Nat
  deriving DecidableEq, Repr

/-- The supply record (R159). -/
structure SupplyRec where
  sagBelow : Nat
  highAbove : Nat
  persistence : Nat
  state : SupplyState
  low : Nat
  inside : Nat
  high : Nat
  deriving DecidableEq, Repr

/-- The band record (R161). -/
structure BandRec where
  duskBelow : Nat
  nightBelow : Nat
  persistence : Nat
  band : BandName
  candidate : Option BandName
  count : Nat
  deriving DecidableEq, Repr

/-- The sense monitor: the last code of each channel (R154; the converted value is computed from it), the machines, and
the sense phase (R153). -/
structure SenseMonitor where
  codes : Tab (Option (BitVec 12)) 6
  thermal : Tab ThermalRec 4
  supply : SupplyRec
  band : BandRec
  phase : Nat
  deriving DecidableEq, Repr

/-! ### Compose engine (02, 08) -/

/-- What a job reads of a player (R16). -/
structure PlayerSnap where
  state : PlayerState
  elapsed : Nat
  track : Option TrackId
  mode : RunMode
  loops : Nat
  deriving DecidableEq, Repr

/-- A request in the compose queue (R135). `stale` says that the lane has resumed as from enable since it was raised
(R143, R150). -/
structure Request where
  lane : LaneId
  stale : Bool
  deriving DecidableEq, Repr

/-- The compose job in progress: what it read at its start (R16, R17), the moment its last node became ready (R136), the S6 duties
of the nodes composed so far, in ascending position, and what S1 to S6 gave for the next one, with the mismatches found, where a
slot due at that moment has carried its entry first (R32, log 39). -/
structure Job where
  lane : LaneId
  stale : Bool
  startedAt : Nat
  readyAt : Nat
  nodeCount : Nat
  zones : Tab ZoneRec 16
  zoneStacks : Tab (List LayerRec) 16
  players : Tab PlayerSnap 16
  master : Nat
  temp : Int
  thermal : ThermalState
  holdSet : List Range
  budget : Nat
  derate : Nat
  latency : LatencyMode
  lastSent : List (Option RGB)
  scaleHeld : Nat
  duties : List RGB
  reached : Option (RGB × List (TrackId × Nat))
  deriving DecidableEq, Repr

/-- The compose engine (R135): its queue and the job in progress. -/
structure Engine where
  queue : List Request
  job : Option Job
  deriving DecidableEq, Repr

/-! ### Command link (10) -/

/-- A good link message as the command input buffer holds it (R169, R172). -/
structure LinkMsg where
  tag : Byte
  kind : Byte
  payload : List Byte
  deriving DecidableEq, Repr

/-- The receive parser's states (R170): in BODY and CHECKING with the LEN byte and the bytes received after it. -/
inductive Parser where
  | hunting
  | length
  | body (len : Byte) (got : List Byte)
  | checking (len : Byte) (got : List Byte)
  deriving DecidableEq, Repr

/-- A reply (R176): its payload starts with the status. -/
structure Reply where
  tag : Byte
  kind : Byte
  payload : List Byte
  deriving DecidableEq, Repr

/-- The 13 notice kinds of 10.7, in the order of their kind codes from 0xE0. -/
inductive NoticeKind where
  | linkFault | underrun | nodeFault | keyframeDamaged | thermalState | supplyState | band | playerEnd | stagedApplied
  | triggerSkipped | wake | restarted | standbyEntered
  deriving DecidableEq, Repr

/-- A notice in the queue: its kind and the fields that follow its LOST byte, as they stood at its posting (R177,
R181). -/
structure Notice where
  kind : NoticeKind
  fields : List Byte
  deriving DecidableEq, Repr

/-- The command in dispatch, while it waits (R173): for room for its reply (R176); for the compose job that reads its
track or its set (R68, R121); for its lane's last frame (R138); for standby (R185), with whether its finish is DARK; for
the entry to ACTIVE (R188); or for the reset, with the replies that still wait for places: the OK and the BUSYs of the messages that
RESTART removed, and behind them those of later arrivals (R182). -/
inductive Dispatched where
  | replyWaiting (r : Reply)
  | heldKeys (m : LinkMsg)
  | heldSet (m : LinkMsg)
  | laneDisable (m : LinkMsg) (l : LaneId)
  | sleep (m : LinkMsg) (dark : Bool)
  | wake (m : LinkMsg)
  | restart (own later : List Reply)
  deriving DecidableEq, Repr

/-- The link message being sent, byte by byte, and the moment its last byte ends (R168, R178). -/
structure Transmission where
  bytes : List Byte
  endsAt : Nat
  deriving DecidableEq, Repr

/-- The link controller's state. -/
structure LinkState where
  parser : Parser
  lastByteEnd : Nat
  buffer : List LinkMsg
  inDispatch : Option Dispatched
  replies : List Reply
  notices : List Notice
  mask : Tab Bool 13
  lost : Bool
  busyDrops : Nat
  tx : Option Transmission
  deriving DecidableEq, Repr

/-! ### Power controller and clocks (11, 08) -/

inductive PowerState where
  | active | sleeping | standby | waking
  deriving DecidableEq, Repr

/-- What started WAKING (R184, R186). -/
inductive WakeCause where
  | message
  | line (i : LineId)
  deriving DecidableEq, Repr

/-- A line's trigger event: a rising or a falling edge of INn (R102). -/
structure LineEvent where
  line : LineId
  rising : Bool
  deriving DecidableEq, Repr

/-- The power controller (R184). -/
structure PowerCtl where
  state : PowerState
  cause : Option WakeCause
  count : Nat
  events : List LineEvent
  deriving DecidableEq, Repr

/-- The part's clocks, in µs: the present moment; the next device tick and the parts of it already taken; the group
period as set, and the next group tick (R132). -/
structure Clocks where
  now : Nat
  deviceDue : Nat
  taken : List TickPart
  groupPeriod : Nat
  groupDue : Nat
  deriving DecidableEq, Repr

/-! ### The whole part -/

/-- The state of the part, and the queue of the commands that wait to be taken, oldest first. -/
structure State where
  link : LinkState
  zones : Tab ZoneRec 16
  layers : Tab (Option LayerRec) 48
  zoneStacks : Tab (List LayerId) 16
  pattern : PatternMemory
  players : Tab Player 16
  lines : Tab LineRec 8
  wheel : Wheel
  bindings : Tab (Option Binding) 32
  cal : CalStore
  lanes : Tab Lane 4
  engine : Engine
  sense : SenseMonitor
  power : PowerCtl
  clocks : Clocks
  pending : List Instr
  deriving DecidableEq, Repr

/-- The faults of the part. There are none: the spec calls no behaviour of the part undefined, and answers bad input
with a notice or a status. -/
inductive Fault where
  deriving DecidableEq, Repr

/-- The refusals of the model. -/
inductive Refusal where
  /-- Raised by exec's arm for a command that has no meaning yet; safe: the model stops. No arm raises it now. -/
  | notModelled (mnemonic : String)
  deriving DecidableEq, Repr

/-! ### The values after a reset -/

/-- A lane record after either reset (R1, R130, R164). -/
def Lane.reset : Lane where
  nodeCount := 0
  bitRate := .r800k
  timing := .grouped
  latency := .buffered
  soloPeriod := 10000
  state := .disabled
  front := []
  sentSinceEnable := false
  back := []
  backReady := false
  lastSent := []
  holdSet := []
  faults := []
  poll := 0
  underruns := 0
  armed := true
  scale := 65536
  budget := 20000
  derate := 128
  frame := none
  darkOwed := false
  darkSent := false
  soloDue := none

/-- A zone record after either reset, and the fields of an UNDEFINED zone (R8). -/
def ZoneRec.undefined : ZoneRec where
  defined := false
  lane := 0
  first := 0
  count := 0
  set := 0
  trim := 255
  policy := .showAll

/-- A slot that holds no keyframe (R76). Its content is DESIGN CHOICE, log 9: nothing reads it before it is written. -/
def Slot.empty : Slot where
  time := 0
  colour := RGB.zero
  coverage := 0
  ease := .step
  code := 0
  mismatched := false

/-- Pattern memory after a power-on reset (R76). -/
def PatternMemory.powerOn : PatternMemory where
  blocks := Vector.replicate 128 (Vector.replicate 16 Slot.empty)
  tracks := Vector.replicate 64 none
  free := List.finRange 128

/-- A player's settings after either reset (R77, R99). -/
def Settings.reset : Settings where
  track := none
  mode := .once
  rate := 256
  loops := 0
  tail := 0
  policy := .ignore
  holdPoint := none
  window := 10000
  endNotice := false

/-- A player after either reset (R77, R99). -/
def Player.reset : Player where
  settings := Settings.reset
  state := .idle
  elapsed := 0
  holdPassed := false
  windowLeft := none
  staged := none

/-- An input line after either reset (R100). -/
def LineRec.reset : LineRec where
  mode := .off
  filter := 4
  wake := false
  level := none
  changes := 0

/-- The thumbwheel record after either reset (R104). -/
def Wheel.reset : Wheel where
  lastPair := none
  transitions := 0
  lastDir := none
  resync := false

/-- A value brought into a range (00 Numbers). -/
def clampInt (lo hi x : Int) : Int := if x < lo then lo else if hi < x then hi else x

/-- A calibration set brought into the ranges of R118: every field of a set always holds a value in its range. -/
def calInRange (c : CalSet) : CalSet where
  mRR := clampInt (-8192) 8191 c.mRR
  mRG := clampInt (-8192) 8191 c.mRG
  mRB := clampInt (-8192) 8191 c.mRB
  mGR := clampInt (-8192) 8191 c.mGR
  mGG := clampInt (-8192) 8191 c.mGG
  mGB := clampInt (-8192) 8191 c.mGB
  mBR := clampInt (-8192) 8191 c.mBR
  mBG := clampInt (-8192) 8191 c.mBG
  mBB := clampInt (-8192) 8191 c.mBB
  kR := clampInt (-64) 64 c.kR
  kG := clampInt (-64) 64 c.kG
  kB := clampInt (-64) 64 c.kB
  iR := max 1 (min 255 c.iR)
  iG := max 1 (min 255 c.iG)
  iB := max 1 (min 255 c.iB)

/-- The factory sets of the part (R119, log 8). -/
def CalStore.factorySets : Tab CalSet 8 := Vector.ofFn fun n => calInRange (Config.factoryValues n)

/-- Entry i of the curve after a power-on reset (R125). -/
def CalStore.defaultEntry (i : Nat) : Nat := 1023 * (i * i) / 3969

/-- The calibration store after a power-on reset of a part with these factory sets (R119, R125, R127, R128). -/
def CalStore.powerOn (factory : Tab CalSet 8) : CalStore where
  factory := factory
  working := factory
  curve := Vector.ofFn fun i => CalStore.defaultEntry i.val
  wheelIndex := 32
  factorDay := 256
  factorDusk := 208
  factorNight := 144

/-- The calibration store after RESTART: the band factors alone are reset (R119, R125, R127, R128). -/
def CalStore.restarted (c : CalStore) : CalStore :=
  { c with factorDay := 256, factorDusk := 208, factorNight := 144 }

/-- A thermal record after either reset (R156). -/
def ThermalRec.reset : ThermalRec where
  derateAt := 85
  cutoffAt := 105
  resumeBelow := 75
  persistence := 3
  state := .normal
  hot := 0
  warm := 0
  cool := 0

/-- The supply record after either reset (R159). -/
def SupplyRec.reset : SupplyRec where
  sagBelow := 9000
  highAbove := 16500
  persistence := 2
  state := .normal
  low := 0
  inside := 0
  high := 0

/-- The band record after either reset (R161). -/
def BandRec.reset : BandRec where
  duskBelow := 1200
  nightBelow := 300
  persistence := 5
  band := .day
  candidate := none
  count := 0

/-- The sense monitor after either reset (R153 to R161). -/
def SenseMonitor.reset : SenseMonitor where
  codes := Vector.replicate 6 none
  thermal := Vector.replicate 4 ThermalRec.reset
  supply := SupplyRec.reset
  band := BandRec.reset
  phase := 0

/-- The link controller when a reset ends, with the RESTARTED notice of that reset as the first notice of its queue
(R170, R172, R176, R177, R189, R190). The cause is 0 for POWER_ON and 1 for COMMAND. -/
def LinkState.reset (cause : Byte) : LinkState where
  parser := .hunting
  lastByteEnd := 0
  buffer := []
  inDispatch := none
  replies := []
  notices := [⟨.restarted, [cause]⟩]
  mask := Vector.replicate 13 true
  lost := false
  busyDrops := 0
  tx := none

/-- The power controller after either reset (R184). -/
def PowerCtl.reset : PowerCtl where
  state := .active
  cause := none
  count := 0
  events := []

/-- The clocks when a reset ends at the moment `t`: the group tick comes one group period later (R132), the first device
tick 1 ms later (log 6). -/
def Clocks.reset (t : Nat) : Clocks where
  now := t
  deviceDue := t + 1000
  taken := []
  groupPeriod := 10000
  groupDue := t + 10000

/-- The part when a reset ends at the moment `t`, with this pattern memory and this calibration store: every other block
holds its reset values (R189, R190). -/
def State.afterReset (cause : Byte) (t : Nat) (pattern : PatternMemory) (cal : CalStore) (pending : List Instr) :
    State where
  link := LinkState.reset cause
  zones := Vector.replicate 16 ZoneRec.undefined
  layers := Vector.replicate 48 none
  zoneStacks := Vector.replicate 16 []
  pattern := pattern
  players := Vector.replicate 16 Player.reset
  lines := Vector.replicate 8 LineRec.reset
  wheel := Wheel.reset
  bindings := Vector.replicate 32 none
  cal := cal
  lanes := Vector.replicate 4 Lane.reset
  engine := ⟨[], none⟩
  sense := SenseMonitor.reset
  power := PowerCtl.reset
  clocks := Clocks.reset t
  pending := pending

/-- The part right after a power-on reset (R189), with no command waiting. -/
def State.reset : State :=
  State.afterReset 0 0 PatternMemory.powerOn (CalStore.powerOn CalStore.factorySets) []

end Sys2Proof.Machine
end

