-- ==== Sys2Proof/Machine/Flags.lean ====
section
/-! DEFINITION. The codes of the part's enumerations, statuses, notice kinds and flag bytes on the link (10 R175, R176,
10.7, 10.8): 0, 1, 2, … in the order in which the rule that defines the field lists the values. -/

namespace Sys2Proof.Machine

/-! ### Statuses (R176) -/

/-- The reply statuses. -/
inductive Status where
  | ok | badLength | badKind | range | busy | state | inUse | noSpace | full | order | overlap | nodePool | timing | waking
  | replaced
  deriving DecidableEq, Repr

def Status.code : Status → Byte
  | .ok => 0x00
  | .badLength => 0x01
  | .badKind => 0x02
  | .range => 0x03
  | .busy => 0x04
  | .state => 0x05
  | .inUse => 0x06
  | .noSpace => 0x07
  | .full => 0x08
  | .order => 0x09
  | .overlap => 0x0A
  | .nodePool => 0x0B
  | .timing => 0x0C
  | .waking => 0x0D
  | .replaced => 0x0E

/-! ### Notice kinds (10.7) -/

/-- The place of a notice kind in the notice mask. -/
def NoticeKind.index : NoticeKind → Fin 13
  | .linkFault => 0
  | .underrun => 1
  | .nodeFault => 2
  | .keyframeDamaged => 3
  | .thermalState => 4
  | .supplyState => 5
  | .band => 6
  | .playerEnd => 7
  | .stagedApplied => 8
  | .triggerSkipped => 9
  | .wake => 10
  | .restarted => 11
  | .standbyEntered => 12

/-- The KIND byte of a notice: 0xE0 and up. -/
def NoticeKind.code (k : NoticeKind) : Byte := 0xE0 + BitVec.ofNat 8 k.index.val

/-! ### Enumerations from the link -/

def bitRateOf : Nat → Option BitRate
  | 0 => some .r400k
  | 1 => some .r800k
  | 2 => some .r1600k
  | _ => none

def timingOf : Nat → Option TimingMode
  | 0 => some .grouped
  | 1 => some .solo
  | 2 => some .onDemand
  | _ => none

def latencyOf : Nat → Option LatencyMode
  | 0 => some .buffered
  | 1 => some .direct
  | _ => none

def policyOf : Nat → Option FaultPolicy
  | 0 => some .blankFaulty
  | 1 => some .showAll
  | _ => none

def blendOf : Nat → Option Blend
  | 0 => some .replace
  | 1 => some .add
  | 2 => some .max
  | _ => none

def sweepOf : Nat → Option SweepOrder
  | 0 => some .linear
  | 1 => some .reverse
  | 2 => some .centreOut
  | 3 => some .interleaved
  | _ => none

def easeOf : Nat → Option Ease
  | 0 => some .step
  | 1 => some .linear
  | 2 => some .smooth
  | _ => none

def runModeOf : Nat → Option RunMode
  | 0 => some .once
  | 1 => some .holdLast
  | 2 => some .loop
  | _ => none

def retriggerOf : Nat → Option RetriggerPolicy
  | 0 => some .ignore
  | 1 => some .replay
  | 2 => some .extend
  | _ => none

def lineModeOf : Nat → Option LineMode
  | 0 => some .off
  | 1 => some .rise
  | 2 => some .fall
  | 3 => some .both
  | _ => none

/-- The finish of LANE_DISABLE and SLEEP: DARK (true) or KEEP (R138, R185). -/
def finishOf : Nat → Option Bool
  | 0 => some true
  | 1 => some false
  | _ => none

/-- A flag, or a two-valued selector read as "the second value" (R175). -/
def flagOf : Nat → Option Bool
  | 0 => some false
  | 1 => some true
  | _ => none

/-! ### Enumerations to the link -/

def BitRate.code : BitRate → Nat
  | .r400k => 0
  | .r800k => 1
  | .r1600k => 2

def TimingMode.code : TimingMode → Nat
  | .grouped => 0
  | .solo => 1
  | .onDemand => 2

def LatencyMode.code : LatencyMode → Nat
  | .buffered => 0
  | .direct => 1

def LaneState.code : LaneState → Nat
  | .disabled => 0
  | .starting => 1
  | .running => 2
  | .paused => 3
  | .stopping => 4

def FaultPolicy.code : FaultPolicy → Nat
  | .blankFaulty => 0
  | .showAll => 1

/-- The state byte of a placed layer: FREE is 0 (R39). -/
def FadeState.code : FadeState → Nat
  | .parked => 1
  | .rising => 2
  | .steady => 3
  | .falling => 4

def Source.code : Source → Nat
  | .solid _ => 0
  | .gradient _ _ => 1
  | .track _ => 2

def Blend.code : Blend → Nat
  | .replace => 0
  | .add => 1
  | .max => 2

def SweepOrder.code : SweepOrder → Nat
  | .linear => 0
  | .reverse => 1
  | .centreOut => 2
  | .interleaved => 3

def easeCode : Ease → Nat
  | .step => 0
  | .linear => 1
  | .smooth => 2

def RunMode.code : RunMode → Nat
  | .once => 0
  | .holdLast => 1
  | .loop => 2

def RetriggerPolicy.code : RetriggerPolicy → Nat
  | .ignore => 0
  | .replay => 1
  | .extend => 2

def PlayerState.code : PlayerState → Nat
  | .idle => 0
  | .armed => 1
  | .running => 2
  | .paused => 3
  | .tail => 4
  | .holding => 5
  | .ended => 6

/-- The state a PLAYER_END notice carries: ENDED, HOLDING in that order (R83, 10.7; log 15). -/
def PlayerState.endCode : PlayerState → Nat
  | .holding => 1
  | _ => 0

def LineMode.code : LineMode → Nat
  | .off => 0
  | .rise => 1
  | .fall => 2
  | .both => 3

/-- The pairs 00, 01, 11, 10 in the order in which R104 lists them (log 15). -/
def pairCode (p : BitVec 2) : Nat :=
  if p = 0 then 0 else if p = 1 then 1 else if p = 3 then 2 else 3

def WheelDir.code : WheelDir → Nat
  | .up => 0
  | .down => 1

/-- START, ARM, STOP, SHOW, HIDE (R109). -/
def BindAction.code : BindAction → Nat
  | .start _ => 0
  | .arm _ => 1
  | .stop _ => 2
  | .show _ => 3
  | .hide _ => 4

def BindAction.target : BindAction → Nat
  | .start p => p.val
  | .arm p => p.val
  | .stop p => p.val
  | .show l => l.val
  | .hide l => l.val

def BandName.code : BandName → Nat
  | .day => 0
  | .dusk => 1
  | .night => 2

def ThermalState.code : ThermalState → Nat
  | .normal => 0
  | .derate => 1
  | .cutoff => 2

def SupplyState.code : SupplyState → Nat
  | .sag => 0
  | .normal => 1
  | .high => 2

def PowerState.code : PowerState → Nat
  | .active => 0
  | .sleeping => 1
  | .standby => 2
  | .waking => 3

/-- DARK is 0 and KEEP is 1 (R138, R185). -/
def finishCode (dark : Bool) : Nat := if dark then 0 else 1

/-- LENGTH, CHECK, TIMEOUT (R171). -/
inductive LinkFaultCause where
  | length | check | timeout
  deriving DecidableEq, Repr

def LinkFaultCause.code : LinkFaultCause → Nat
  | .length => 0
  | .check => 1
  | .timeout => 2

/-- NO_TRACK, PLAYER_BUSY, LAYER_FREE (R113). -/
inductive SkipCause where
  | noTrack | playerBusy | layerFree
  deriving DecidableEq, Repr

def SkipCause.code : SkipCause → Nat
  | .noTrack => 0
  | .playerBusy => 1
  | .layerFree => 2

/-- WRAP, TAIL_ENTRY, END, START (R95). -/
inductive TakePoint where
  | wrap | tailEntry | atEnd | start
  deriving DecidableEq, Repr

def TakePoint.code : TakePoint → Nat
  | .wrap => 0
  | .tailEntry => 1
  | .atEnd => 2
  | .start => 3

/-- STARTED, REPLAYED, EXTENDED, DISCARDED (R88). -/
inductive StartOutcome where
  | started | replayed | extended | discarded
  deriving DecidableEq, Repr

def StartOutcome.code : StartOutcome → Nat
  | .started => 0
  | .replayed => 1
  | .extended => 2
  | .discarded => 3

/-! ### Fault flags (R130, R146, 10.7) -/

/-- The NO_REPLY flag: bit 5, which the diagnostic word leaves unused. -/
def noReply : FaultFlags := 0x20

/-- The flag byte that NODE_FAULT and NODE_FAULTS_READ carry. -/
def flagsByte (f : FaultFlags) : Byte := f.setWidth 8

/-- The flags that an answer adds (R146, R183). The 24 bits are those received in bits 17 to 40 of the return window,
first bit most significant: position echo, flag byte, check. The answer is well checked when the echo equals the poll
index, bits 5 to 7 of the flag byte are 0, and the check equals 255 - ((echo + flag byte) mod 256). -/
def answerFlags (poll : Nat) (answer : BitVec 24) : FaultFlags :=
  let echo := (answer.extractLsb' 16 8).toNat
  let flags := (answer.extractLsb' 8 8).toNat
  let check := (answer.extractLsb' 0 8).toNat
  if echo = poll ∧ flags < 32 ∧ check = 255 - (echo + flags) % 256 then BitVec.ofNat 6 flags else noReply

/-! ### Lane slots on the wire (R183, 10.8) -/

/-- The 40 bits of a slot, first bit sent most significant: the marker, then red, green and blue duties. -/
def slotWord : Entry → BitVec 40
  | .hold => (5 : BitVec 4) ++ (0 : BitVec 36)
  | .colour c => (10 : BitVec 4) ++ BitVec.ofNat 12 c.r ++ BitVec.ofNat 12 c.g ++ BitVec.ofNat 12 c.b

/-- Bits 1 to 12 of the return window: the marker and the poll index (10.8). -/
def pollWord (poll : Nat) : BitVec 12 := (12 : BitVec 4) ++ BitVec.ofNat 8 poll

/-! ### Persistence counts (R155) -/

/-- A persistence count after one sample: one more, up to 15, when the sample meets the condition, else 0. -/
def persist (count : Nat) (met : Bool) : Nat := if met then min 15 (count + 1) else 0

end Sys2Proof.Machine
end

