-- ==== Sys2Proof/Machine/Operands.lean ====
section
/-! DEFINITION. The operand forms: the fields of every command's payload (10 R175, in the order of each command's rule),
the length each layout gives, and the checks a rule makes on the fields alone. A parse that answers `none` is the
command's refusal with RANGE. Also the encodings of the fields that replies and notices carry. -/

namespace Sys2Proof.Machine

/-! ### Reading fields -/

/-- The one-byte field at offset `i`. -/
def fieldU8 (p : List Byte) (i : Nat) : Nat := (p.getD i 0).toNat

/-- The two-byte field at offset `i`, most significant byte first. -/
def fieldU16 (p : List Byte) (i : Nat) : Nat := fieldU8 p i * 256 + fieldU8 p (i + 1)

/-- A signed one-byte field: temperatures and temperature coefficients. -/
def fieldS8 (p : List Byte) (i : Nat) : Int := (p.getD i 0).toInt

/-- A signed two-byte field: matrix coefficients. -/
def fieldS16 (p : List Byte) (i : Nat) : Int := (BitVec.ofNat 16 (fieldU16 p i)).toInt

/-- The number of an object, when it is within the range of its kind. -/
def idOf (n k : Nat) : Option (Fin n) := if h : k < n then some ⟨k, h⟩ else none

/-- A received colour: a component above 4095 is stored as 4095 (R40, R65, R175). -/
def fieldColour (p : List Byte) (i : Nat) : RGB :=
  ⟨min 4095 (fieldU16 p i), min 4095 (fieldU16 p (i + 2)), min 4095 (fieldU16 p (i + 4))⟩

/-- `some ()` when a check passes. -/
def checkThat (b : Bool) : Option Unit := if b then some () else none

/-! ### Writing fields -/

def u8 (n : Nat) : List Byte := [BitVec.ofNat 8 n]

def u16 (n : Nat) : List Byte := [BitVec.ofNat 8 (n / 256), BitVec.ofNat 8 n]

def u32 (n : Nat) : List Byte :=
  [BitVec.ofNat 8 (n / 16777216), BitVec.ofNat 8 (n / 65536), BitVec.ofNat 8 (n / 256), BitVec.ofNat 8 n]

def s8 (x : Int) : List Byte := [BitVec.ofInt 8 x]

def s16 (x : Int) : List Byte :=
  let w := BitVec.ofInt 16 x
  [w.extractLsb' 8 8, w.extractLsb' 0 8]

def flag (b : Bool) : List Byte := if b then [1] else [0]

def colourBytes (c : RGB) : List Byte := u16 c.r ++ u16 c.g ++ u16 c.b

/-- A field that a reply may leave out, after a presence flag of its own (R175). -/
def optional {α : Type} (f : α → List Byte) : Option α → List Byte
  | none => flag false
  | some x => flag true ++ f x

/-- A list whose length no earlier field gives, after a count byte (R175). -/
def counted {α : Type} (f : α → List Byte) (xs : List α) : List Byte := u8 xs.length ++ xs.flatMap f

/-! ### Layout lengths (R174 check 2, R175) -/

def lenIs (n : Nat) (p : List Byte) : Bool := p.length == n

/-- A layout whose length is fixed by the field at `sel`: the payload must reach that field, and where the field's value is
one that fixes a length, the payload must have that length. -/
def lenBy (sel : Nat) (lengthFor : Nat → Option Nat) (p : List Byte) : Bool :=
  decide (sel < p.length) &&
    match lengthFor (fieldU8 p sel) with
    | none => true
    | some n => p.length == n

def lenKeysWrite : List Byte → Bool := lenBy 3 fun c => if 1 ≤ c ∧ c ≤ 16 then some (5 + 10 * c) else none

def lenNodeHold : List Byte → Bool := lenBy 1 fun c => if c ≤ 8 then some (2 + 2 * c) else none

def lenMemoryRead : List Byte → Bool :=
  lenBy 0 fun f => if f = 0 then some 1 else if f = 1 then some 2 else none

def lenInputsRead : List Byte → Bool :=
  lenBy 0 fun f => if f = 0 then some 1 else if f = 1 then some 3 else none

def lenCalRead : List Byte → Bool :=
  lenBy 0 fun f => if f = 0 then some 3 else if f = 1 then some 1 else none

def lenCurveWrite : List Byte → Bool := lenBy 1 fun c => if 1 ≤ c ∧ c ≤ 64 then some (2 + 2 * c) else none

def lenMonitorSet : List Byte → Bool := lenBy 0 fun f => if f ≤ 2 then some 6 else none

/-! ### Command kinds (10.7) -/

def kindStatusRead : Byte := 0x01
def kindRestart : Byte := 0x02
def kindSleep : Byte := 0x03
def kindWake : Byte := 0x04
def kindNoticeMask : Byte := 0x05
def kindLaneSetup : Byte := 0x10
def kindLaneEnable : Byte := 0x11
def kindLaneDisable : Byte := 0x12
def kindLaneRead : Byte := 0x13
def kindNodeHold : Byte := 0x14
def kindNodeFaultsRead : Byte := 0x15
def kindGroupPeriod : Byte := 0x18
def kindZoneDefine : Byte := 0x20
def kindZoneClear : Byte := 0x21
def kindZoneRead : Byte := 0x22
def kindLayerPlace : Byte := 0x28
def kindLayerLift : Byte := 0x29
def kindLayerSet : Byte := 0x2A
def kindLayerShow : Byte := 0x2B
def kindLayerHide : Byte := 0x2C
def kindStackRead : Byte := 0x2D
def kindTrackCreate : Byte := 0x30
def kindKeysWrite : Byte := 0x31
def kindKeysRead : Byte := 0x32
def kindTrackFree : Byte := 0x33
def kindMemoryRead : Byte := 0x34
def kindPlayerSetup : Byte := 0x38
def kindPlayerStart : Byte := 0x39
def kindPlayerArm : Byte := 0x3A
def kindPlayerStop : Byte := 0x3B
def kindPlayerRead : Byte := 0x3C
def kindLineSetup : Byte := 0x40
def kindBind : Byte := 0x41
def kindUnbind : Byte := 0x42
def kindEventInject : Byte := 0x43
def kindInputsRead : Byte := 0x44
def kindCalWrite : Byte := 0x48
def kindCalRestore : Byte := 0x49
def kindCalRead : Byte := 0x4A
def kindCurveWrite : Byte := 0x4B
def kindDimmerSet : Byte := 0x4C
def kindBandFactors : Byte := 0x4D
def kindBudgetSet : Byte := 0x50
def kindMonitorSet : Byte := 0x51
def kindSenseRead : Byte := 0x52

/-- The KIND bytes that name a command: every other one is answered BAD_KIND (R174). -/
def commandKinds : List Byte :=
  [kindStatusRead, kindRestart, kindSleep, kindWake, kindNoticeMask, kindLaneSetup, kindLaneEnable, kindLaneDisable,
   kindLaneRead, kindNodeHold, kindNodeFaultsRead, kindGroupPeriod, kindZoneDefine, kindZoneClear, kindZoneRead,
   kindLayerPlace, kindLayerLift, kindLayerSet, kindLayerShow, kindLayerHide, kindStackRead, kindTrackCreate,
   kindKeysWrite, kindKeysRead, kindTrackFree, kindMemoryRead, kindPlayerSetup, kindPlayerStart, kindPlayerArm,
   kindPlayerStop, kindPlayerRead, kindLineSetup, kindBind, kindUnbind, kindEventInject, kindInputsRead, kindCalWrite,
   kindCalRestore, kindCalRead, kindCurveWrite, kindDimmerSet, kindBandFactors, kindBudgetSet, kindMonitorSet,
   kindSenseRead]

/-! ### The fields of each command -/

/-- LANE_SETUP (01 1.3; R5 check 1). -/
structure LaneSetupArgs where
  lane : LaneId
  count : Nat
  rate : BitRate
  timing : TimingMode
  latency : LatencyMode
  solo : Nat
  deriving DecidableEq, Repr

/-- A refresh period in µs that R1 and R133 allow. -/
def periodOk (t : Nat) : Bool := decide (5000 ≤ t ∧ t ≤ 40000 ∧ t % 100 = 0)

def parseLaneSetup (p : List Byte) : Option LaneSetupArgs := do
  let lane ← idOf 4 (fieldU8 p 0)
  let count := fieldU8 p 1
  let rate ← bitRateOf (fieldU8 p 2)
  let timing ← timingOf (fieldU8 p 3)
  let latency ← latencyOf (fieldU8 p 4)
  let solo := fieldU16 p 5
  checkThat (decide (count ≤ 96) && periodOk solo && !(decide (timing = .onDemand) && decide (latency = .direct)))
  return ⟨lane, count, rate, timing, latency, solo⟩

/-- LANE_DISABLE: the lane, and whether the finish is DARK (R138). -/
def parseLaneDisable (p : List Byte) : Option (LaneId × Bool) := do
  let lane ← idOf 4 (fieldU8 p 0)
  let dark ← finishOf (fieldU8 p 1)
  return (lane, dark)

/-- LANE_READ: the lane and the clear flag (R152). -/
def parseLaneRead (p : List Byte) : Option (LaneId × Bool) := do
  let lane ← idOf 4 (fieldU8 p 0)
  let clear ← flagOf (fieldU8 p 1)
  return (lane, clear)

/-- NODE_HOLD: the lane and the list of ranges (R145). -/
def parseNodeHold (p : List Byte) : Option (LaneId × List Range) := do
  let lane ← idOf 4 (fieldU8 p 0)
  let n := fieldU8 p 1
  checkThat (decide (n ≤ 8))
  return (lane, (List.range n).map fun j => ⟨fieldU8 p (2 + 2 * j), fieldU8 p (3 + 2 * j)⟩)

/-- ZONE_DEFINE (01 1.5; R10 check 1). -/
structure ZoneDefineArgs where
  zone : ZoneId
  lane : LaneId
  first : Nat
  count : Nat
  set : SetId
  trim : Nat
  policy : FaultPolicy
  deriving DecidableEq, Repr

def parseZoneDefine (p : List Byte) : Option ZoneDefineArgs := do
  let zone ← idOf 16 (fieldU8 p 0)
  let lane ← idOf 4 (fieldU8 p 1)
  let first := fieldU8 p 2
  let count := fieldU8 p 3
  let set ← idOf 8 (fieldU8 p 4)
  let trim := fieldU8 p 5
  let policy ← policyOf (fieldU8 p 6)
  checkThat (decide (1 ≤ count ∧ count ≤ 96))
  return ⟨zone, lane, first, count, set, trim, policy⟩

/-- A layer's source from its kind, colours and player fields: the fields that the kind does not use are not checked
(R40). -/
def sourceOf (kind : Nat) (a b : RGB) (player : Nat) : Option Source :=
  match kind with
  | 0 => some (.solid a)
  | 1 => some (.gradient a b)
  | 2 => (idOf 16 player).map .track
  | _ => none

/-- LAYER_PLACE (03 3.4; R46 check 1). The node range is `none` when its presence flag is clear. -/
structure LayerPlaceArgs where
  layer : LayerId
  zone : ZoneId
  priority : Nat
  source : Source
  blend : Blend
  opacity : Nat
  range : Option Range
  sweep : SweepOrder
  step : Nat
  fadeTime : Nat
  shown : Bool
  deriving DecidableEq, Repr

/-- Check 1 of R46; a range-present flag other than 0 or 1 fails it too (log 37). -/
def parseLayerPlace (p : List Byte) : Option LayerPlaceArgs := do
  let layer ← idOf 48 (fieldU8 p 0)
  let zone ← idOf 16 (fieldU8 p 1)
  let priority := fieldU8 p 2
  let source ← sourceOf (fieldU8 p 3) (fieldColour p 4) (fieldColour p 10) (fieldU8 p 16)
  let blend ← blendOf (fieldU8 p 17)
  let opacity := fieldU8 p 18
  let ranged ← flagOf (fieldU8 p 19)
  let range := if ranged then some ⟨fieldU8 p 20, fieldU8 p 21⟩ else none
  let sweep ← sweepOf (fieldU8 p 22)
  let step := fieldU8 p 23
  let fadeTime := fieldU16 p 24
  let shown ← flagOf (fieldU8 p 26)
  checkThat (decide (priority ≤ 15 ∧ fadeTime ≤ 10000))
  return ⟨layer, zone, priority, source, blend, opacity, range, sweep, step, fadeTime, shown⟩

/-- LAYER_SET (03 3.5; R49 check 1). -/
structure LayerSetArgs where
  layer : LayerId
  source : Source
  blend : Blend
  opacity : Nat
  sweep : SweepOrder
  step : Nat
  fadeTime : Nat
  deriving DecidableEq, Repr

def parseLayerSet (p : List Byte) : Option LayerSetArgs := do
  let layer ← idOf 48 (fieldU8 p 0)
  let source ← sourceOf (fieldU8 p 1) (fieldColour p 2) (fieldColour p 8) (fieldU8 p 14)
  let blend ← blendOf (fieldU8 p 15)
  let opacity := fieldU8 p 16
  let sweep ← sweepOf (fieldU8 p 17)
  let step := fieldU8 p 18
  let fadeTime := fieldU16 p 19
  checkThat (decide (fadeTime ≤ 10000))
  return ⟨layer, source, blend, opacity, sweep, step, fadeTime⟩

/-- TRACK_CREATE: the track and the keyframe count (R63 check 1). -/
def parseTrackCreate (p : List Byte) : Option (TrackId × Nat) := do
  let t ← idOf 64 (fieldU8 p 0)
  let n := fieldU16 p 1
  checkThat (decide (2 ≤ n ∧ n ≤ 512))
  return (t, n)

/-- One keyframe entry of KEYS_WRITE (04 4.5). -/
structure KeyEntry where
  time : Nat
  colour : RGB
  coverage : Nat
  ease : Ease
  deriving DecidableEq, Repr

/-- KEYS_WRITE (04 4.5; R65 check 1): the mask's four flags and the entries. -/
structure KeysWriteArgs where
  track : TrackId
  first : Nat
  count : Nat
  maskTime : Bool
  maskColour : Bool
  maskAlpha : Bool
  maskEase : Bool
  entries : List KeyEntry
  deriving DecidableEq, Repr

/-- The entry at offset `i`: its ease is not checked here, and is STEP where its byte names none. -/
def keyEntryAt (p : List Byte) (i : Nat) : KeyEntry :=
  ⟨fieldU16 p i, fieldColour p (i + 2), fieldU8 p (i + 8), (easeOf (fieldU8 p (i + 9))).getD .step⟩

def parseKeysWrite (p : List Byte) : Option KeysWriteArgs := do
  let track ← idOf 64 (fieldU8 p 0)
  let first := fieldU16 p 1
  let count := fieldU8 p 3
  let mask := fieldU8 p 4
  checkThat (decide (1 ≤ count ∧ count ≤ 16 ∧ 1 ≤ mask ∧ mask ≤ 15))
  let maskEase := mask.testBit 3
  checkThat (!maskEase || (List.range count).all fun j => (easeOf (fieldU8 p (5 + 10 * j + 9))).isSome)
  return ⟨track, first, count, mask.testBit 0, mask.testBit 1, mask.testBit 2, maskEase,
    (List.range count).map fun j => keyEntryAt p (5 + 10 * j)⟩

/-- KEYS_READ: the track, the first index and the count (R73). -/
def parseKeysRead (p : List Byte) : Option (TrackId × Nat × Nat) := do
  let t ← idOf 64 (fieldU8 p 0)
  let first := fieldU16 p 1
  let count := fieldU8 p 3
  checkThat (decide (1 ≤ count ∧ count ≤ 16))
  return (t, first, count)

/-- MEMORY_READ: the track asked for, if any (R74). -/
def parseMemoryRead (p : List Byte) : Option (Option TrackId) := do
  let given ← flagOf (fieldU8 p 0)
  if given then
    let t ← idOf 64 (fieldU8 p 1)
    return some t
  else
    return none

/-- PLAYER_SETUP (05 5.5; R91 check 1): `atWrap` is the apply point AT_WRAP. -/
structure PlayerSetupArgs where
  player : PlayerId
  settings : Settings
  atWrap : Bool
  deriving DecidableEq, Repr

/-- The track field, when its flag names one: a number outside 0..63 is out of range. -/
def namedTrack (named : Bool) (k : Nat) : Option (Option TrackId) :=
  if named then (idOf 64 k).map some else some none

/-- Check 1 of R91; its flags are judged with it (log 37). -/
def parsePlayerSetup (p : List Byte) : Option PlayerSetupArgs := do
  let player ← idOf 16 (fieldU8 p 0)
  let named ← flagOf (fieldU8 p 1)
  let track ← namedTrack named (fieldU8 p 2)
  let mode ← runModeOf (fieldU8 p 3)
  let rate := fieldU16 p 4
  let loops := fieldU8 p 6
  let tail := fieldU16 p 7
  let policy ← retriggerOf (fieldU8 p 9)
  let held ← flagOf (fieldU8 p 10)
  let holdPoint := if held then some (fieldU16 p 11) else none
  let window := fieldU16 p 13
  let endNotice ← flagOf (fieldU8 p 15)
  let atWrap ← flagOf (fieldU8 p 16)
  checkThat (decide (64 ≤ rate ∧ rate ≤ 1024 ∧ tail ≤ 30000 ∧ 100 ≤ window ∧ window ≤ 60000))
  checkThat (!(decide (policy = .extend) && (!held || decide (mode = .loop))))
  return ⟨player, ⟨track, mode, rate, loops, tail, policy, holdPoint, window, endNotice⟩, atWrap⟩

/-- LINE_SETUP (R103). -/
structure LineSetupArgs where
  line : LineId
  mode : LineMode
  filter : Nat
  wake : Bool
  deriving DecidableEq, Repr

def parseLineSetup (p : List Byte) : Option LineSetupArgs := do
  let line ← idOf 8 (fieldU8 p 0)
  let mode ← lineModeOf (fieldU8 p 1)
  let filter := fieldU8 p 2
  let wake ← flagOf (fieldU8 p 3)
  checkThat (decide (1 ≤ filter ∧ filter ≤ 15))
  return ⟨line, mode, filter, wake⟩

/-- A binding's action and target (R109, R110). -/
def actionOf (action target : Nat) : Option BindAction :=
  match action with
  | 0 => (idOf 16 target).map .start
  | 1 => (idOf 16 target).map .arm
  | 2 => (idOf 16 target).map .stop
  | 3 => (idOf 48 target).map .show
  | 4 => (idOf 48 target).map .hide
  | _ => none

/-- BIND: the index and the record it writes (R110). -/
def parseBind (p : List Byte) : Option (BindingId × Binding) := do
  let i ← idOf 32 (fieldU8 p 0)
  let enabled ← flagOf (fieldU8 p 1)
  let source ← idOf 54 (fieldU8 p 2)
  let action ← actionOf (fieldU8 p 3) (fieldU8 p 4)
  return (i, ⟨enabled, source, action⟩)

/-- INPUTS_READ: LINES, or a range of bindings (R117). -/
def parseInputsRead (p : List Byte) : Option (Option (Nat × Nat)) := do
  let bindings ← flagOf (fieldU8 p 0)
  if bindings then
    let first := fieldU8 p 1
    let count := fieldU8 p 2
    checkThat (decide (first ≤ 31 ∧ 1 ≤ count ∧ count ≤ 16 ∧ first + count ≤ 32))
    return some (first, count)
  else
    return none

/-- CAL_WRITE: the set and its fifteen values (R120). -/
def calSetAt (p : List Byte) : CalSet where
  mRR := fieldS16 p 1
  mRG := fieldS16 p 3
  mRB := fieldS16 p 5
  mGR := fieldS16 p 7
  mGG := fieldS16 p 9
  mGB := fieldS16 p 11
  mBR := fieldS16 p 13
  mBG := fieldS16 p 15
  mBB := fieldS16 p 17
  kR := fieldS8 p 19
  kG := fieldS8 p 20
  kB := fieldS8 p 21
  iR := fieldU8 p 22
  iG := fieldU8 p 23
  iB := fieldU8 p 24

def coefficientOk (x : Int) : Bool := decide (-8192 ≤ x ∧ x ≤ 8191)

def tempCoefficientOk (x : Int) : Bool := decide (-64 ≤ x ∧ x ≤ 64)

def currentOk (x : Nat) : Bool := decide (1 ≤ x ∧ x ≤ 255)

/-- Every value of a set is in its range (R118). -/
def calSetOk (c : CalSet) : Bool :=
  coefficientOk c.mRR && coefficientOk c.mRG && coefficientOk c.mRB && coefficientOk c.mGR && coefficientOk c.mGG &&
    coefficientOk c.mGB && coefficientOk c.mBR && coefficientOk c.mBG && coefficientOk c.mBB &&
    tempCoefficientOk c.kR && tempCoefficientOk c.kG && tempCoefficientOk c.kB &&
    currentOk c.iR && currentOk c.iG && currentOk c.iB

def parseCalWrite (p : List Byte) : Option (SetId × CalSet) := do
  let w ← idOf 8 (fieldU8 p 0)
  checkThat (calSetOk (calSetAt p))
  return (w, calSetAt p)

/-- CAL_READ: LEVEL, or a set: whether it is a working set, and its number (R123). -/
def parseCalRead (p : List Byte) : Option (Option (Bool × SetId)) := do
  let level ← flagOf (fieldU8 p 0)
  if level then
    return none
  else
    let working ← flagOf (fieldU8 p 1)
    let n ← idOf 8 (fieldU8 p 2)
    return some (working, n)

/-- CURVE_WRITE: the first index and the entries (R126). -/
def parseCurveWrite (p : List Byte) : Option (Nat × List Nat) := do
  let first := fieldU8 p 0
  let count := fieldU8 p 1
  let entries := (List.range count).map fun j => fieldU16 p (2 + 2 * j)
  checkThat (decide (first ≤ 63 ∧ 1 ≤ count ∧ count ≤ 64 ∧ first + count ≤ 64))
  checkThat (entries.all fun e => decide (e ≤ 1023))
  return (first, entries)

/-- BAND_FACTORS: the factors for DAY, DUSK and NIGHT (R128). -/
def parseBandFactors (p : List Byte) : Option (Nat × Nat × Nat) := do
  let day := fieldU16 p 0
  let dusk := fieldU16 p 2
  let night := fieldU16 p 4
  checkThat (decide (day ≤ 256 ∧ dusk ≤ 256 ∧ night ≤ 256))
  return (day, dusk, night)

/-- BUDGET_SET: the lane, the budget and the derate factor (R164). -/
def parseBudgetSet (p : List Byte) : Option (LaneId × Nat × Nat) := do
  let lane ← idOf 4 (fieldU8 p 0)
  let budget := fieldU16 p 1
  let derate := fieldU16 p 3
  checkThat (decide (budget ≤ 20000 ∧ derate ≤ 256))
  return (lane, budget, derate)

/-- MONITOR_SET: the settings of one machine (R163). -/
inductive MonitorArgs where
  | thermal (lane : LaneId) (derateAt cutoffAt resumeBelow : Int) (persistence : Nat)
  | supply (sagBelow highAbove persistence : Nat)
  | band (duskBelow nightBelow persistence : Nat)
  deriving DecidableEq, Repr

def persistenceOk (n : Nat) : Bool := decide (1 ≤ n ∧ n ≤ 15)

def temperatureOk (t : Int) : Bool := decide (-40 ≤ t ∧ t ≤ 125)

def parseMonitorSet (p : List Byte) : Option MonitorArgs :=
  match fieldU8 p 0 with
  | 0 => do
    let lane ← idOf 4 (fieldU8 p 1)
    let derateAt := fieldS8 p 2
    let cutoffAt := fieldS8 p 3
    let resumeBelow := fieldS8 p 4
    checkThat (temperatureOk derateAt && temperatureOk cutoffAt && temperatureOk resumeBelow &&
      persistenceOk (fieldU8 p 5) && decide (resumeBelow < derateAt ∧ derateAt < cutoffAt))
    return .thermal lane derateAt cutoffAt resumeBelow (fieldU8 p 5)
  | 1 => do
    let sagBelow := fieldU16 p 1
    let highAbove := fieldU16 p 3
    checkThat (decide (sagBelow ≤ 20000 ∧ highAbove ≤ 20000 ∧ sagBelow < highAbove) && persistenceOk (fieldU8 p 5))
    return .supply sagBelow highAbove (fieldU8 p 5)
  | 2 => do
    let duskBelow := fieldU16 p 1
    let nightBelow := fieldU16 p 3
    checkThat (decide (duskBelow ≤ 4095 ∧ nightBelow ≤ 4095 ∧ nightBelow < duskBelow) && persistenceOk (fieldU8 p 5))
    return .band duskBelow nightBelow (fieldU8 p 5)
  | _ => none

/-- NOTICE_MASK: 13 enables in the order of the notice kinds (R179). -/
def parseNoticeMask (p : List Byte) : Option (Tab Bool 13) := do
  checkThat ((List.range 13).all fun j => (flagOf (fieldU8 p j)).isSome)
  return Vector.ofFn fun j => fieldU8 p j.val == 1

end Sys2Proof.Machine
end

