-- ==== Sys2Proof/Machine/Ops.lean ====
section
/-! DEFINITION. The operations that every family shares: writing one record of a table, moving the clock, posting a
notice, forming a reply, dispatching a command of the link, and the geometry of a lane's frame. -/

namespace Sys2Proof.Machine

/-! ### One record of a table -/

def State.setZone (s : State) (z : ZoneId) (x : ZoneRec) : State := { s with zones := s.zones.put z x }

def State.setLayer (s : State) (l : LayerId) (x : Option LayerRec) : State := { s with layers := s.layers.put l x }

def State.setStack (s : State) (z : ZoneId) (x : List LayerId) : State := { s with zoneStacks := s.zoneStacks.put z x }

def State.setPlayer (s : State) (p : PlayerId) (x : Player) : State := { s with players := s.players.put p x }

def State.setLine (s : State) (i : LineId) (x : LineRec) : State := { s with lines := s.lines.put i x }

def State.setBinding (s : State) (i : BindingId) (x : Option Binding) : State := { s with bindings := s.bindings.put i x }

def State.setLane (s : State) (l : LaneId) (x : Lane) : State := { s with lanes := s.lanes.put l x }

def State.setPattern (s : State) (x : PatternMemory) : State := { s with pattern := x }

def State.setLink (s : State) (x : LinkState) : State := { s with link := x }

def State.setEngine (s : State) (x : Engine) : State := { s with engine := x }

def State.setSense (s : State) (x : SenseMonitor) : State := { s with sense := x }

def State.setPower (s : State) (x : PowerCtl) : State := { s with power := x }

def State.setClocks (s : State) (x : Clocks) : State := { s with clocks := x }

def State.setCal (s : State) (x : CalStore) : State := { s with cal := x }

def State.setWheel (s : State) (x : Wheel) : State := { s with wheel := x }

def State.setWorking (s : State) (w : SetId) (x : CalSet) : State :=
  s.setCal { s.cal with working := s.cal.working.put w x }

/-! ### The clock -/

/-- The moment `t` has come: the clock never goes back (log 5). -/
def State.clockTo (s : State) (t : Nat) : State := s.setClocks { s.clocks with now := max s.clocks.now t }

/-! ### Notices (R177) -/

/-- Posting a notice: a masked kind changes nothing; a full queue drops the notice and sets LOST. -/
def LinkState.post (k : LinkState) (kind : NoticeKind) (fields : List Byte) : LinkState :=
  if k.mask[kind.index] then
    if k.notices.length < 16 then { k with notices := k.notices ++ [⟨kind, fields⟩] } else { k with lost := true }
  else k

def State.post (s : State) (kind : NoticeKind) (fields : List Byte) : State := s.setLink (s.link.post kind fields)

/-! ### Replies (R172, R176) -/

/-- A count that saturates at 65,535. -/
def saturate16 (n : Nat) : Nat := min 65535 n

/-- A reply with the tag of its command and its KIND + 0x80. -/
def replyTo (m : LinkMsg) (status : Status) (fields : List Byte) : Reply := ⟨m.tag, m.kind + 0x80, status.code :: fields⟩

/-- The reply of the command in dispatch joins the queue, or waits for a place and keeps the command in dispatch. -/
def LinkState.joinReply (k : LinkState) (r : Reply) : LinkState :=
  if k.replies.length < 8 then { k with replies := k.replies ++ [r], inDispatch := none }
  else { k with inDispatch := some (.replyWaiting r) }

/-- The reply of a message that the buffer cannot take: it joins the queue, or it is dropped and counted where the queue is full
(R172, R176). -/
def LinkState.busyReply (k : LinkState) (m : LinkMsg) : LinkState :=
  if k.replies.length < 8 then { k with replies := k.replies ++ [replyTo m .busy []] }
  else { k with busyDrops := saturate16 (k.busyDrops + 1) }

/-- The block answers the command in dispatch. -/
def State.answer (s : State) (m : LinkMsg) (status : Status) (fields : List Byte) : State :=
  s.setLink (s.link.joinReply (replyTo m status fields))

/-- A refusal carries the status alone and changes nothing else. -/
def State.refuse (s : State) (m : LinkMsg) (status : Status) : State := s.answer m status []

def State.ok (s : State) (m : LinkMsg) (fields : List Byte) : State := s.answer m .ok fields

/-- A command stays in dispatch. -/
def State.hold (s : State) (d : Dispatched) : State := s.setLink { s.link with inDispatch := some d }

/-! ### Dispatch (R173, R174) -/

/-- Whether the power state and the link let the next command be dispatched. -/
def State.dispatchable (s : State) : Bool :=
  s.link.inDispatch.isNone && (decide (s.power.state = .active) || decide (s.power.state = .waking))

/-- The message that is dispatched next, if one can be. -/
def State.frontMessage (s : State) : Option LinkMsg := if s.dispatchable then s.link.buffer.head? else none

/-- A message leaves the buffer at the moment it is dispatched. -/
def State.takeFront (s : State) : State := s.setLink { s.link with buffer := s.link.buffer.drop 1 }

/-- The dispatch of a command of this KIND (R174, checks 2 to 4), when the message to be dispatched next has it: its length, then
whether it is served while the part is WAKING, then the command's own rule. Otherwise nothing is dispatched (log 1). -/
def State.dispatch (kind : Byte) (lenOk : List Byte → Bool) (servedWaking : Bool) (body : LinkMsg → State → State)
    (s : State) : State :=
  match s.frontMessage with
  | none => s
  | some m =>
    if m.kind = kind then
      let t := s.takeFront
      if lenOk m.payload then
        if decide (s.power.state = .waking) && !servedWaking then t.refuse m .waking else body m t
      else t.refuse m .badLength
    else s

/-! ### Frames (R4, R131) -/

/-- The bit rate in bit/s. -/
def BitRate.bits : BitRate → Nat
  | .r400k => 400000
  | .r800k => 800000
  | .r1600k => 1600000

/-- A division rounded up. -/
def ceilDiv (a b : Nat) : Nat := (a + b - 1) / b

/-- The frame time in µs of a chain of `n` nodes. -/
def frameTime (rate : BitRate) (n : Nat) : Nat := 100 + ceilDiv ((40 * n + 48) * 1000000) rate.bits

/-- The time of one slot in µs: 40 bit times. -/
def slotTime (rate : BitRate) : Nat := 40 * 1000000 / rate.bits

def Lane.frameTime (x : Lane) : Nat := Machine.frameTime x.bitRate x.nodeCount

/-- The period that a lane's frames must fit (R4). -/
def Lane.period (x : Lane) (group : Nat) : Nat := if x.timing = .solo then x.soloPeriod else group

def Lane.fits (x : Lane) (group : Nat) : Bool := decide (x.frameTime ≤ x.period group)

/-- Whether a position lies in one of the ranges. -/
def heldIn (ranges : List Range) (p : Nat) : Bool := ranges.any fun r => decide (r.first ≤ p ∧ p < r.first + r.count)

/-- Whether the lane has a job queued or in progress. -/
def Engine.outstanding (e : Engine) (l : LaneId) : Bool :=
  e.queue.any (fun r => decide (r.lane = l)) || e.job.any (fun j => decide (j.lane = l))

/-- What a position holds when a buffer is new: duty 0. -/
def darkEntries (n : Nat) : List Entry := List.replicate n (.colour RGB.zero)

end Sys2Proof.Machine
end

