-- ==== Sys2Proof/Machine/Layers.lean ====
section
/-! DEFINITION. The layer pool (03): stacks, fades, and the layer commands. -/

namespace Sys2Proof.Machine

/-! ### Stacks (R41) -/

/-- The priority of a placed layer. -/
def State.priorityOf (s : State) (l : LayerId) : Nat := (s.layers[l].map LayerRec.priority).getD 0

/-- Where a layer of this priority goes: above the layers whose priority is equal or lower. -/
def State.stackPlace (s : State) (z : ZoneId) (priority : Nat) : Nat :=
  (s.zoneStacks[z].takeWhile fun j => decide (s.priorityOf j ≤ priority)).length

def State.insertLayer (s : State) (z : ZoneId) (l : LayerId) (priority : Nat) : State :=
  s.setStack z (s.zoneStacks[z].insertIdx (s.stackPlace z priority) l)

def State.removeLayer (s : State) (z : ZoneId) (l : LayerId) : State := s.setStack z (s.zoneStacks[z].erase l)

/-! ### Fades (R43, R44, R50 to R52) -/

/-- One device tick of a fade (R43). -/
def LayerRec.tick (x : LayerRec) : LayerRec :=
  match x.state with
  | .rising =>
    let pos := if x.pos < x.fadeTime then x.pos + 1 else x.pos
    { x with pos := pos, state := if pos = x.fadeTime then .steady else .rising }
  | .falling =>
    let pos := x.pos - 1
    { x with pos := pos, state := if pos = 0 then .parked else .falling }
  | _ => x

/-- The fade factor f (R44). -/
def LayerRec.fadeFactor (x : LayerRec) : Nat :=
  if x.fadeTime = 0 then (if x.state = .steady then 256 else 0) else 256 * x.pos / x.fadeTime

/-- The fade position under a new fade time (R50). -/
def LayerRec.posUnder (x : LayerRec) (fadeTime : Nat) : Nat :=
  match x.state with
  | .parked => 0
  | .steady => fadeTime
  | _ => min x.pos fadeTime

/-- R51. -/
def LayerRec.shown (x : LayerRec) : LayerRec :=
  match x.state with
  | .parked => { x with state := .rising, pos := 0 }
  | .falling => { x with state := .rising }
  | _ => x

/-- R52. -/
def LayerRec.hidden (x : LayerRec) : LayerRec :=
  match x.state with
  | .rising => { x with state := .falling }
  | .steady => { x with state := .falling }
  | _ => x

/-- The state and L that the replies of R49, R51 and R52 carry. -/
def LayerRec.stateFields (x : LayerRec) : List Byte := u8 x.state.code ++ u16 x.pos

/-! ### LAYER_PLACE (R46, R47) -/

/-- The record that LAYER_PLACE writes. -/
def LayerPlaceArgs.record (a : LayerPlaceArgs) : LayerRec where
  state := if a.shown then .rising else .parked
  zone := a.zone
  priority := a.priority
  source := a.source
  blend := a.blend
  opacity := a.opacity
  range := a.range
  sweep := a.sweep
  step := a.step
  fadeTime := a.fadeTime
  pos := 0

/-- Check 5 of R46. -/
def rangeFits (range : Option Range) (count : Nat) : Bool :=
  match range with
  | none => true
  | some r => decide (1 ≤ r.count ∧ r.first + r.count ≤ count)

/-- Checks 2 to 5 of R46, in order. -/
def State.placeStatus (s : State) (a : LayerPlaceArgs) : Status :=
  if s.layers[a.layer].isSome then .state
  else if !s.zones[a.zone].defined then .state
  else if 6 ≤ s.zoneStacks[a.zone].length then .full
  else if rangeFits a.range s.zones[a.zone].count then .ok
  else .range

def State.placeLayer (s : State) (a : LayerPlaceArgs) : State :=
  (s.insertLayer a.zone a.layer a.priority).setLayer a.layer (some a.record)

def cmdLayerPlace (m : LinkMsg) (s : State) : State :=
  match parseLayerPlace m.payload with
  | none => s.refuse m .range
  | some a =>
    match s.placeStatus a with
    | .ok => (s.placeLayer a).ok m (u8 (s.stackPlace a.zone a.priority) ++ u8 (s.zoneStacks[a.zone].length + 1))
    | status => s.refuse m status

def execLayerPlace (s : State) : Host.Outcome State Fault Refusal :=
  .next (s.dispatch kindLayerPlace (lenIs 27) false cmdLayerPlace)

/-! ### LAYER_LIFT (R48) -/

def State.liftLayer (s : State) (l : LayerId) : State :=
  match s.layers[l] with
  | none => s
  | some x => (s.removeLayer x.zone l).setLayer l none

def cmdLayerLift (m : LinkMsg) (s : State) : State :=
  match idOf 48 (fieldU8 m.payload 0) with
  | none => s.refuse m .range
  | some l => (s.liftLayer l).ok m []

def execLayerLift (s : State) : Host.Outcome State Fault Refusal :=
  .next (s.dispatch kindLayerLift (lenIs 1) false cmdLayerLift)

/-! ### LAYER_SET (R49, R50) -/

def LayerRec.set (x : LayerRec) (a : LayerSetArgs) : LayerRec :=
  { x with
    source := a.source
    blend := a.blend
    opacity := a.opacity
    sweep := a.sweep
    step := a.step
    fadeTime := a.fadeTime
    pos := x.posUnder a.fadeTime }

def cmdLayerSet (m : LinkMsg) (s : State) : State :=
  match parseLayerSet m.payload with
  | none => s.refuse m .range
  | some a =>
    match s.layers[a.layer] with
    | none => s.refuse m .state
    | some x => (s.setLayer a.layer (some (x.set a))).ok m (x.set a).stateFields

def execLayerSet (s : State) : Host.Outcome State Fault Refusal :=
  .next (s.dispatch kindLayerSet (lenIs 21) false cmdLayerSet)

/-! ### LAYER_SHOW and LAYER_HIDE (R51, R52) -/

/-- The two commands differ in how they change the layer. -/
def State.fadeCommand (change : LayerRec → LayerRec) (m : LinkMsg) (s : State) : State :=
  match idOf 48 (fieldU8 m.payload 0) with
  | none => s.refuse m .range
  | some l =>
    match s.layers[l] with
    | none => s.refuse m .state
    | some x => (s.setLayer l (some (change x))).ok m (change x).stateFields

def execLayerShow (s : State) : Host.Outcome State Fault Refusal :=
  .next (s.dispatch kindLayerShow (lenIs 1) false (State.fadeCommand LayerRec.shown))

def execLayerHide (s : State) : Host.Outcome State Fault Refusal :=
  .next (s.dispatch kindLayerHide (lenIs 1) false (State.fadeCommand LayerRec.hidden))

/-! ### STACK_READ (R54) -/

/-- The fields that a source kind brings (R54). -/
def Source.fields : Source → List Byte
  | .solid a => colourBytes a
  | .gradient a b => colourBytes a ++ colourBytes b
  | .track p => u8 p.val

def rangeBytes (r : Range) : List Byte := u8 r.first ++ u8 r.count

def LayerRec.entryFields (x : LayerRec) (l : LayerId) : List Byte :=
  u8 l.val ++ u8 x.priority ++ u8 x.state.code ++ u16 x.pos ++ u16 x.fadeTime ++ u8 x.source.code ++ u8 x.blend.code ++
    u8 x.opacity ++ x.source.fields ++ optional rangeBytes x.range ++ u8 x.sweep.code ++ u8 x.step

/-- The entry of a stack's layer. -/
def State.stackEntry (s : State) (l : LayerId) : List Byte :=
  match s.layers[l] with
  | none => []
  | some x => x.entryFields l

def State.stackFields (s : State) (z : ZoneId) : List Byte :=
  u8 s.zoneStacks[z].length ++ s.zoneStacks[z].flatMap s.stackEntry

def cmdStackRead (m : LinkMsg) (s : State) : State :=
  match idOf 16 (fieldU8 m.payload 0) with
  | none => s.refuse m .range
  | some z => s.ok m (s.stackFields z)

def execStackRead (s : State) : Host.Outcome State Fault Refusal :=
  .next (s.dispatch kindStackRead (lenIs 1) true cmdStackRead)

end Sys2Proof.Machine
end

