-- ==== Sys2Proof/Machine/Patterns.lean ====
section
/-! DEFINITION. Pattern memory (04): slots and check codes, tracks, damage, allocation, and the track commands. -/

namespace Sys2Proof.Machine

/-! ### Slots (R59, R70) -/

/-- The block that holds keyframe `i`. -/
def Track.blockOf (t : Track) (i : Nat) : BlockId := t.chain.getD (i / 16) 0

/-- The slot, within its block, of keyframe `i`. -/
def slotOf (i : Nat) : SlotId := Fin.ofNat 16 i

/-- The slot that holds keyframe `i` of a track. -/
def PatternMemory.key (pm : PatternMemory) (t : Track) (i : Nat) : Slot := pm.blocks[t.blockOf i][slotOf i]

def PatternMemory.putSlot (pm : PatternMemory) (b : BlockId) (k : SlotId) (x : Slot) : PatternMemory :=
  { pm with blocks := pm.blocks.put b (pm.blocks[b].put k x) }

def PatternMemory.putTrack (pm : PatternMemory) (k : TrackId) (t : Option Track) : PatternMemory :=
  { pm with tracks := pm.tracks.put k t }

/-- A slot just written: its check code is computed over what it holds, and it is whole. -/
def Slot.coded (x : Slot) (b : BlockId) (k : SlotId) : Slot :=
  { x with
    code := Config.checkCode b.val k.val x.time x.colour.r x.colour.g x.colour.b x.coverage x.ease
    mismatched := false }

def PatternMemory.writeKey (pm : PatternMemory) (t : Track) (i : Nat) (x : Slot) : PatternMemory :=
  pm.putSlot (t.blockOf i) (slotOf i) (x.coded (t.blockOf i) (slotOf i))

/-! ### Tracks (R60, R61, R98) -/

/-- The time of the last keyframe. -/
def Track.duration (t : Track) : Nat := t.times.getD (t.count - 1) 0

/-- Whether the track is DAMAGED. -/
def Track.damaged (t : Track) : Bool := !t.damage.isEmpty || t.rewrite.isSome

/-- FREE, DEFINED, DAMAGED. -/
def trackStateCode : Option Track → Nat
  | none => 0
  | some t => if t.damaged then 2 else 1

/-- Whether a player names a track, in its settings or in its staged settings. -/
def Player.names (x : Player) (k : TrackId) : Bool :=
  decide (x.settings.track = some k) || x.staged.any fun st => decide (st.track = some k)

/-- How many players name a track. -/
def State.namers (s : State) (k : TrackId) : Nat := (List.finRange 16).countP fun p => s.players[p].names k

/-! ### Which tracks and sets a job reads (R17, R18, R68) -/

/-- Whether a layer contributes at offset `k` of its zone. -/
def LayerRec.contributes (x : LayerRec) (k : Nat) : Bool :=
  decide (x.state ≠ .parked) &&
    match x.range with
    | none => true
    | some r => decide (r.first ≤ k ∧ k < r.first + r.count)

/-- The states of a player whose track is sampled (R20). -/
def PlayerState.shows : PlayerState → Bool
  | .running | .paused | .tail | .holding => true
  | _ => false

/-- Whether the layer is a TRACK layer whose player shows the track. -/
def Job.layerShows (j : Job) (x : LayerRec) (k : TrackId) : Bool :=
  match x.source with
  | .track p => j.players[p].state.shows && decide (j.players[p].track = some k)
  | _ => false

def Job.zoneOnLane (j : Job) (z : ZoneId) : Bool := j.zones[z].defined && decide (j.zones[z].lane = j.lane)

/-- Whether the job reads a track: it holds a contributing TRACK layer whose player shows it. -/
def Job.readsTrack (j : Job) (k : TrackId) : Bool :=
  (List.finRange 16).any fun z => j.zoneOnLane z &&
    j.zoneStacks[z].any fun x => j.layerShows x k && (List.range j.zones[z].count).any x.contributes

/-- Whether the job reads a working set: a DEFINED zone on its lane names it. -/
def Job.readsSet (j : Job) (w : SetId) : Bool :=
  (List.finRange 16).any fun z => j.zoneOnLane z && decide (j.zones[z].set = w)

def Engine.readsTrack (e : Engine) (k : TrackId) : Bool := e.job.any fun j => j.readsTrack k

def Engine.readsSet (e : Engine) (w : SetId) : Bool := e.job.any fun j => j.readsSet w

/-! ### Damage (R71) -/

/-- The record after a mismatched slot of keyframe `i` is reported, and whether KEYFRAME_DAMAGED is posted. -/
def Track.report (t : Track) (i : Nat) : Track × Bool :=
  if i ∈ t.damage then (t, false)
  else if t.damage.length < 4 then ({ t with damage := t.damage ++ [i] }, true)
  else ({ t with rewrite := some 0 }, t.rewrite.isNone)

def damageFields (k : TrackId) (i : Nat) (t : Track) : List Byte :=
  u8 k.val ++ u16 i ++ u8 t.damage.length ++ flag t.rewrite.isSome

/-- A read found the slot of keyframe `i` mismatched. -/
def State.reportMismatch (s : State) (k : TrackId) (i : Nat) : State :=
  match s.pattern.tracks[k] with
  | none => s
  | some t =>
    let u := (t.report i).1
    let s' := s.setPattern (s.pattern.putTrack k (some u))
    if (t.report i).2 then s'.post .keyframeDamaged (damageFields k i u) else s'

/-- Mismatches found one after another. -/
def State.reportAll (s : State) (found : List (TrackId × Nat)) : State :=
  found.foldl (fun s x => s.reportMismatch x.1 x.2) s

/-! ### TRACK_CREATE (R63, R64) -/

/-- How many blocks a track of `n` keyframes owns. -/
def blocksFor (n : Nat) : Nat := (n + 15) / 16

/-- The record of a track just created on these blocks. -/
def Track.fresh (n : Nat) (chain : List BlockId) : Track where
  count := n
  chain := chain
  times := List.range n
  damage := []
  rewrite := none

/-- What TRACK_CREATE writes into the slot of keyframe `i`. -/
def Slot.fresh (i : Nat) : Slot := ⟨i, RGB.zero, 0, .linear, 0, false⟩

def PatternMemory.create (pm : PatternMemory) (k : TrackId) (n : Nat) : PatternMemory :=
  let t := Track.fresh n (pm.free.take (blocksFor n))
  let pm' := (List.range n).foldl (fun m i => m.writeKey t i (Slot.fresh i)) pm
  { (pm'.putTrack k (some t)) with free := pm.free.drop (blocksFor n) }

def createFields (pm : PatternMemory) (n : Nat) : List Byte :=
  counted (fun b : BlockId => u8 b.val) (pm.free.take (blocksFor n)) ++ u8 (pm.free.drop (blocksFor n)).length

def cmdTrackCreate (m : LinkMsg) (s : State) : State :=
  match parseTrackCreate m.payload with
  | none => s.refuse m .range
  | some (k, n) =>
    if s.pattern.tracks[k].isSome then s.refuse m .state
    else if s.pattern.free.length < blocksFor n then s.refuse m .noSpace
    else (s.setPattern (s.pattern.create k n)).ok m (createFields s.pattern n)

def execTrackCreate (s : State) : Host.Outcome State Fault Refusal :=
  .next (s.dispatch kindTrackCreate (lenIs 3) false cmdTrackCreate)

/-! ### KEYS_WRITE (R65 to R69) -/

/-- A list with a run of its entries replaced. -/
def overwrite {α : Type} (xs : List α) (first : Nat) (ys : List α) : List α :=
  xs.take first ++ ys ++ xs.drop (first + ys.length)

def strictlyRising : List Nat → Bool
  | a :: b :: rest => decide (a < b) && strictlyRising (b :: rest)
  | _ => true

/-- The order law of R66: keyframe 0 has time 0, and times strictly increase. -/
def timesInOrder (ts : List Nat) : Bool := decide (ts.head? = some 0) && strictlyRising ts

/-- The time list the track would hold after the write. -/
def KeysWriteArgs.timesAfter (a : KeysWriteArgs) (t : Track) : List Nat :=
  if a.maskTime then overwrite t.times a.first (a.entries.map KeyEntry.time) else t.times

/-- The fields that the mask selects, from the entry; the others as the slot holds them. -/
def KeysWriteArgs.merge (a : KeysWriteArgs) (e : KeyEntry) (x : Slot) : Slot :=
  { x with
    time := if a.maskTime then e.time else x.time
    colour := if a.maskColour then e.colour else x.colour
    coverage := if a.maskAlpha then e.coverage else x.coverage
    ease := if a.maskEase then e.ease else x.ease }

/-- The slots of the written run, one keyframe after another. -/
def PatternMemory.writeEntries (pm : PatternMemory) (a : KeysWriteArgs) (t : Track) (i : Nat) :
    List KeyEntry → PatternMemory
  | [] => pm
  | e :: es => (pm.writeKey t i (a.merge e (pm.key t i))).writeEntries a t (i + 1) es

/-- The rewrite position after an applied write (R69): absent again once the run of writes has covered the track. -/
def Track.rewriteAfter (t : Track) (first count : Nat) : Option Nat :=
  match t.rewrite with
  | none => none
  | some r =>
    if first ≤ r ∧ r < first + count then (if first + count < t.count then some (first + count) else none) else some r

/-- The track record after an applied write. -/
def KeysWriteArgs.track' (a : KeysWriteArgs) (t : Track) : Track :=
  { t with
    times := a.timesAfter t
    damage := t.damage.filter fun i => !decide (a.first ≤ i ∧ i < a.first + a.count)
    rewrite := t.rewriteAfter a.first a.count }

def PatternMemory.applyKeys (pm : PatternMemory) (a : KeysWriteArgs) (t : Track) : PatternMemory :=
  (pm.writeEntries a t a.first a.entries).putTrack a.track (some (a.track' t))

/-- Checks 2 to 4 of R65, in order. -/
def State.keysWriteStatus (s : State) (a : KeysWriteArgs) : Status :=
  match s.pattern.tracks[a.track] with
  | none => .state
  | some t =>
    if t.count < a.first + a.count then .range
    else if a.maskTime && !timesInOrder (a.timesAfter t) then .order
    else .ok

/-- The write, and its reply. -/
def State.finishKeysWrite (s : State) (m : LinkMsg) (a : KeysWriteArgs) : State :=
  match s.pattern.tracks[a.track] with
  | none => s
  | some t =>
    (s.setPattern (s.pattern.applyKeys a t)).ok m
      (u8 (trackStateCode (some (a.track' t))) ++ u16 (a.track' t).duration)

def cmdKeysWrite (m : LinkMsg) (s : State) : State :=
  match parseKeysWrite m.payload with
  | none => s.refuse m .range
  | some a =>
    match s.keysWriteStatus a with
    | .ok => if s.engine.readsTrack a.track then s.hold (.heldKeys m) else s.finishKeysWrite m a
    | status => s.refuse m status

def execKeysWrite (s : State) : Host.Outcome State Fault Refusal :=
  .next (s.dispatch kindKeysWrite lenKeysWrite false cmdKeysWrite)

/-! ### KEYS_READ (R73) -/

/-- The fields of one keyframe: its time comes from the time list, and its flag is 1 where the slot is mismatched (R73; log 15). -/
def PatternMemory.keyFields (pm : PatternMemory) (t : Track) (i : Nat) : List Byte :=
  let x := pm.key t i
  u16 (t.times.getD i 0) ++ colourBytes x.colour ++ u8 x.coverage ++ u8 (easeCode x.ease) ++ flag x.mismatched

def keyRun (first count : Nat) : List Nat := (List.range count).map (first + ·)

def cmdKeysRead (m : LinkMsg) (s : State) : State :=
  match parseKeysRead m.payload with
  | none => s.refuse m .range
  | some (k, first, count) =>
    match s.pattern.tracks[k] with
    | none => s.refuse m .state
    | some t =>
      if t.count < first + count then s.refuse m .range
      else
        let found := (keyRun first count).filter fun i => (s.pattern.key t i).mismatched
        (s.reportAll (found.map fun i => (k, i))).ok m (counted (s.pattern.keyFields t) (keyRun first count))

def execKeysRead (s : State) : Host.Outcome State Fault Refusal :=
  .next (s.dispatch kindKeysRead (lenIs 4) true cmdKeysRead)

/-! ### TRACK_FREE (R72) -/

def PatternMemory.release (pm : PatternMemory) (k : TrackId) (t : Track) : PatternMemory :=
  { (pm.putTrack k none) with free := t.chain.foldl (fun xs b => xs.orderedInsert (· ≤ ·) b) pm.free }

def State.replyFree (s : State) (m : LinkMsg) : State := s.ok m (u8 s.pattern.free.length)

def cmdTrackFree (m : LinkMsg) (s : State) : State :=
  match idOf 64 (fieldU8 m.payload 0) with
  | none => s.refuse m .range
  | some k =>
    if 0 < s.namers k then s.refuse m .inUse
    else if s.engine.readsTrack k then s.refuse m .inUse
    else
      match s.pattern.tracks[k] with
      | none => s.replyFree m
      | some t => (s.setPattern (s.pattern.release k t)).replyFree m

def execTrackFree (s : State) : Host.Outcome State Fault Refusal :=
  .next (s.dispatch kindTrackFree (lenIs 1) false cmdTrackFree)

/-! ### MEMORY_READ (R74) -/

def State.trackRecordFields (s : State) (k : TrackId) (t : Track) : List Byte :=
  u16 t.count ++ u16 t.duration ++ t.chain.flatMap (fun b : BlockId => u8 b.val) ++ counted u16 t.damage ++
    flag t.rewrite.isSome ++ (match t.rewrite with | none => [] | some r => u16 r) ++ u8 (s.namers k)

/-- The reply of MEMORY_READ: its 64 track states have no count byte, and the track record follows without a presence flag of its own
where a track number was given and its track is not FREE (R74; log 14, the model's choice). -/
def State.memoryFields (s : State) (asked : Option TrackId) : List Byte :=
  u8 s.pattern.free.length ++
    (match s.pattern.free with | [] => [] | b :: _ => u8 b.val) ++
    (List.finRange 64).flatMap (fun k => u8 (trackStateCode s.pattern.tracks[k])) ++
    (match asked with
     | none => []
     | some k =>
       match s.pattern.tracks[k] with
       | none => []
       | some t => s.trackRecordFields k t)

def cmdMemoryRead (m : LinkMsg) (s : State) : State :=
  match parseMemoryRead m.payload with
  | none => s.refuse m .range
  | some asked => s.ok m (s.memoryFields asked)

def execMemoryRead (s : State) : Host.Outcome State Fault Refusal :=
  .next (s.dispatch kindMemoryRead lenMemoryRead true cmdMemoryRead)

/-! ### STORAGE_UPSET (R70) -/

/-- What an upset leaves in a slot: a colour component that a slot cannot hold does not arise, since it has 12 bits. -/
def Slot.upset (x : Slot) (u : Upset) : Slot :=
  let y : Slot :=
    { time := u.time.toNat
      colour := ⟨u.red.toNat, u.green.toNat, u.blue.toNat⟩
      coverage := u.coverage.toNat
      ease := u.ease
      code := x.code ^^^ u.codeFlip
      mismatched := x.mismatched }
  if y = x then x else { y with mismatched := true }

def execStorageUpset (b : BlockId) (k : SlotId) (u : Upset) (s : State) : Host.Outcome State Fault Refusal :=
  .next (s.setPattern (s.pattern.putSlot b k (s.pattern.blocks[b][k].upset u)))

end Sys2Proof.Machine
end

