-- ==== Sys2Proof/Machine/Calibration.lean ====
section
/-! DEFINITION. The calibration store (07): working sets and held writes, the curve, the band factors and the master
level. -/

namespace Sys2Proof.Machine

/-! ### The master level (R129) -/

def CalStore.factor (c : CalStore) : BandName → Nat
  | .day => c.factorDay
  | .dusk => c.factorDusk
  | .night => c.factorNight

def CalStore.master (c : CalStore) (b : BandName) : Nat := min 1023 (c.curve[c.wheelIndex] * c.factor b / 256)

/-! ### CAL_WRITE and CAL_RESTORE (R120 to R122) -/

/-- What an accepted CAL_WRITE or CAL_RESTORE writes: the set's number and its values; `none` where the payload is out of
range. -/
def calTarget (c : CalStore) (m : LinkMsg) : Option (SetId × CalSet) :=
  if m.kind = kindCalWrite then parseCalWrite m.payload
  else (idOf 8 (fieldU8 m.payload 0)).map fun n => (n, c.factory[n])

/-- The write, and its reply. -/
def State.finishCal (s : State) (m : LinkMsg) (w : SetId) (x : CalSet) : State := (s.setWorking w x).ok m []

/-- A write to a working set, held while the job in progress reads the set (R121). -/
def State.calCommand (m : LinkMsg) (s : State) : State :=
  match calTarget s.cal m with
  | none => s.refuse m .range
  | some (w, x) => if s.engine.readsSet w then s.hold (.heldSet m) else s.finishCal m w x

def execCalWrite (s : State) : Host.Outcome State Fault Refusal :=
  .next (s.dispatch kindCalWrite (lenIs 25) false State.calCommand)

def execCalRestore (s : State) : Host.Outcome State Fault Refusal :=
  .next (s.dispatch kindCalRestore (lenIs 1) false State.calCommand)

/-! ### CAL_READ (R123) -/

def calSetFields (c : CalSet) : List Byte :=
  s16 c.mRR ++ s16 c.mRG ++ s16 c.mRB ++ s16 c.mGR ++ s16 c.mGG ++ s16 c.mGB ++ s16 c.mBR ++ s16 c.mBG ++ s16 c.mBB ++
    s8 c.kR ++ s8 c.kG ++ s8 c.kB ++ u8 c.iR ++ u8 c.iG ++ u8 c.iB

/-- The LEVEL reply: its 64 curve entries have no count byte (R123; log 14). -/
def CalStore.levelFields (c : CalStore) (b : BandName) : List Byte :=
  u8 c.wheelIndex.val ++ u8 b.code ++ u16 c.factorDay ++ u16 c.factorDusk ++ u16 c.factorNight ++ u16 (c.master b) ++
    (List.finRange 64).flatMap fun i => u16 c.curve[i]

def CalStore.setFields (c : CalStore) (working : Bool) (n : SetId) : List Byte :=
  flag working ++ u8 n.val ++ calSetFields (if working then c.working[n] else c.factory[n])

def cmdCalRead (m : LinkMsg) (s : State) : State :=
  match parseCalRead m.payload with
  | none => s.refuse m .range
  | some none => s.ok m (s.cal.levelFields s.sense.band.band)
  | some (some (working, n)) => s.ok m (s.cal.setFields working n)

def execCalRead (s : State) : Host.Outcome State Fault Refusal :=
  .next (s.dispatch kindCalRead lenCalRead true cmdCalRead)

/-! ### CURVE_WRITE, DIMMER_SET, BAND_FACTORS (R126 to R128) -/

/-- The curve with a run of its entries written. -/
def writeCurve (curve : Tab Nat 64) (first : Nat) (entries : List Nat) : Tab Nat 64 :=
  Vector.ofFn fun i => if first ≤ i.val then entries.getD (i.val - first) curve[i] else curve[i]

def cmdCurveWrite (m : LinkMsg) (s : State) : State :=
  match parseCurveWrite m.payload with
  | none => s.refuse m .range
  | some (first, entries) => (s.setCal { s.cal with curve := writeCurve s.cal.curve first entries }).ok m []

def execCurveWrite (s : State) : Host.Outcome State Fault Refusal :=
  .next (s.dispatch kindCurveWrite lenCurveWrite false cmdCurveWrite)

def State.setWheelIndex (s : State) (i : Fin 64) : State := s.setCal { s.cal with wheelIndex := i }

def cmdDimmerSet (m : LinkMsg) (s : State) : State :=
  match idOf 64 (fieldU8 m.payload 0) with
  | none => s.refuse m .range
  | some i => (s.setWheelIndex i).ok m []

def execDimmerSet (s : State) : Host.Outcome State Fault Refusal :=
  .next (s.dispatch kindDimmerSet (lenIs 1) false cmdDimmerSet)

def State.setFactors (s : State) (day dusk night : Nat) : State :=
  s.setCal { s.cal with factorDay := day, factorDusk := dusk, factorNight := night }

def cmdBandFactors (m : LinkMsg) (s : State) : State :=
  match parseBandFactors m.payload with
  | none => s.refuse m .range
  | some (day, dusk, night) => (s.setFactors day dusk night).ok m []

def execBandFactors (s : State) : Host.Outcome State Fault Refusal :=
  .next (s.dispatch kindBandFactors (lenIs 6) false cmdBandFactors)

end Sys2Proof.Machine
end

