-- ==== Sys2Proof/Machine/Pipeline.lean ====
section
/-! DEFINITION. The colour pipeline (02): the seven stages, as functions of what a job read. -/

namespace Sys2Proof.Machine

/-- A colour formed component by component. -/
def RGB.map2 (f : Nat → Nat → Nat) (x y : RGB) : RGB := ⟨f x.r y.r, f x.g y.g, f x.b y.b⟩

def RGB.map (f : Nat → Nat) (x : RGB) : RGB := ⟨f x.r, f x.g, f x.b⟩

/-! ### S1: sampling a layer (R19 to R27) -/

/-- One component of a gradient (R19). -/
def gradientAt (n k a b : Nat) : Nat := if n = 1 then a else (a * (n - 1 - k) + b * k + (n - 1) / 2) / (n - 1)

/-- The sweep rank (R21). -/
def sweepRank (order : SweepOrder) (n k : Nat) : Nat :=
  match order with
  | .linear => k
  | .reverse => n - 1 - k
  | .centreOut => (2 * (k : Int) - ((n : Int) - 1)).natAbs / 2
  | .interleaved => 4 * (k / 4) + ((k % 4) ^^^ (k / 4 % 4))

/-- What a sample of a track needs (R22, R23): nothing, one keyframe, or a moment within a segment. -/
inductive Pick where
  | nothing
  | single (i : Nat)
  | moment (t : Nat)
  deriving DecidableEq, Repr

/-- The choice by the run mode and the node time u, in units of 1/256 ms. -/
def pickAt (mode : RunMode) (loops duration count : Nat) (u : Int) : Pick :=
  match mode with
  | .loop =>
    if 0 < loops ∧ (loops * duration * 256 : Nat) ≤ u then .nothing else .moment (u / 256 % duration).toNat
  | .once =>
    if u < 0 then .single 0 else if u < (duration * 256 : Nat) then .moment (u / 256).toNat else .nothing
  | .holdLast =>
    if u < 0 then .single 0 else if u < (duration * 256 : Nat) then .moment (u / 256).toNat else .single (count - 1)

/-- The segment that holds a moment: the last keyframe whose time is not after it (R24). -/
def segmentAt (times : List Nat) (t : Nat) : Nat := (times.takeWhile fun x => decide (x ≤ t)).length - 1

/-- The weight of the later keyframe (R24). -/
def easeWeight (e : Ease) (t t0 t1 : Nat) : Nat :=
  let q := 4096 * (t - t0) / (t1 - t0)
  match e with
  | .step => 0
  | .linear => q
  | .smooth => q * q * (12288 - 2 * q) / 16777216

/-- Interpolation of one value (R25). -/
def lerp (w v0 v1 : Nat) : Nat := (v0 * (4096 - w) + v1 * w + 2048) / 4096

/-- A source's sample at a node: its colour and coverage, and the mismatched keyframes that were read for it, in order. -/
structure Sampled where
  colour : RGB
  coverage : Nat
  found : List (TrackId × Nat)
  deriving DecidableEq, Repr

/-- Coverage 0: the colour has no effect. -/
def Sampled.none (found : List (TrackId × Nat)) : Sampled := ⟨RGB.zero, 0, found⟩

def Slot.sampled (x : Slot) (found : List (TrackId × Nat)) : Sampled := ⟨x.colour, x.coverage, found⟩

/-- Whether a keyframe is damaged for sampling (R26). -/
def PatternMemory.damagedKey (pm : PatternMemory) (t : Track) (i : Nat) : Bool :=
  (pm.key t i).mismatched || decide (i ∈ t.damage)

/-- What a read of keyframe `i` reports (R70). -/
def PatternMemory.readFinds (pm : PatternMemory) (k : TrackId) (t : Track) (i : Nat) : List (TrackId × Nat) :=
  if (pm.key t i).mismatched then [(k, i)] else []

/-- The held keyframe: the undamaged one of greatest index below `d`, read downward (R26). -/
def PatternMemory.heldBelow (pm : PatternMemory) (k : TrackId) (t : Track) (found : List (TrackId × Nat)) :
    Nat → Sampled
  | 0 => Sampled.none found
  | d + 1 =>
    let found' := found ++ pm.readFinds k t d
    if pm.damagedKey t d then pm.heldBelow k t found' d else (pm.key t d).sampled found'

/-- A single keyframe, or the held one in its place. -/
def PatternMemory.sampleSingle (pm : PatternMemory) (k : TrackId) (t : Track) (i : Nat) : Sampled :=
  let found := pm.readFinds k t i
  if pm.damagedKey t i then pm.heldBelow k t found i else (pm.key t i).sampled found

/-- The interpolation of two keyframes (R25). -/
def Slot.blend (x y : Slot) (w : Nat) (found : List (TrackId × Nat)) : Sampled :=
  ⟨x.colour.map2 (lerp w) y.colour, lerp w x.coverage y.coverage, found⟩

/-- The sample at a moment of the track: the keyframes of its segment are read in ascending order (log 12). -/
def PatternMemory.sampleMoment (pm : PatternMemory) (k : TrackId) (t : Track) (m : Nat) : Sampled :=
  let i := segmentAt t.times m
  let found := pm.readFinds k t i ++ pm.readFinds k t (i + 1)
  if pm.damagedKey t i then pm.heldBelow k t found i
  else if pm.damagedKey t (i + 1) then pm.heldBelow k t found (i + 1)
  else (pm.key t i).blend (pm.key t (i + 1))
    (easeWeight (pm.key t i).ease m (t.times.getD i 0) (t.times.getD (i + 1) 0)) found

/-- The sample of a track at node time u (R22, R23). -/
def PatternMemory.sampleTrack (pm : PatternMemory) (k : TrackId) (t : Track) (mode : RunMode) (loops : Nat) (u : Int) :
    Sampled :=
  match pickAt mode loops t.duration t.count u with
  | .nothing => Sampled.none []
  | .single i => pm.sampleSingle k t i
  | .moment m => pm.sampleMoment k t m

/-- A player's sample (R20, R21). -/
def PatternMemory.samplePlayer (pm : PatternMemory) (x : PlayerSnap) (rank step : Nat) : Sampled :=
  if x.state.shows then
    match x.track with
    | none => Sampled.none []
    | some k =>
      match pm.tracks[k] with
      | none => Sampled.none []
      | some t => pm.sampleTrack k t x.mode x.loops ((x.elapsed : Int) - (rank * step * 256 : Nat))
  else Sampled.none []

/-- The first offset and the length of a layer's range within its zone. -/
def LayerRec.span (x : LayerRec) (count : Nat) : Range := x.range.getD ⟨0, count⟩

/-- S1 for a layer at offset `o` of its zone, before opacity and fade. -/
def PatternMemory.sampleLayer (pm : PatternMemory) (players : Tab PlayerSnap 16) (x : LayerRec) (count o : Nat) :
    Sampled :=
  let n := (x.span count).count
  let k := o - (x.span count).first
  match x.source with
  | .solid a => ⟨a, 255, []⟩
  | .gradient a b => ⟨a.map2 (gradientAt n k) b, 255, []⟩
  | .track p => pm.samplePlayer players[p] (sweepRank x.sweep n k) x.step

/-- Effective coverage (R27). -/
def coverageOf (opacity source fade : Nat) : Nat := opacity * source * fade / 65280

/-! ### S2: stacking (R28) -/

/-- One component of the accumulator. -/
def blendOne (b : Blend) (a c acc : Nat) : Nat :=
  match b with
  | .replace => (c * a + acc * (255 - a) + 127) / 255
  | .add => min 4095 (acc + (c * a + 127) / 255)
  | .max => Nat.max acc ((c * a + 127) / 255)

/-- S1 and S2 of one layer onto an accumulator, and the mismatches found. -/
def Job.stackLayer (j : Job) (pm : PatternMemory) (count o : Nat) (acc : RGB × List (TrackId × Nat)) (x : LayerRec) :
    RGB × List (TrackId × Nat) :=
  let y := pm.sampleLayer j.players x count o
  (y.colour.map2 (blendOne x.blend (coverageOf x.opacity y.coverage x.fadeFactor)) acc.1, acc.2 ++ y.found)

/-- The layers of a stack that contribute at offset `o`, bottom to top (R18). -/
def Job.contributing (j : Job) (z : ZoneId) (o : Nat) : List LayerRec := j.zoneStacks[z].filter fun x => x.contributes o

def Job.stacked (j : Job) (pm : PatternMemory) (z : ZoneId) (o : Nat) : RGB × List (TrackId × Nat) :=
  (j.contributing z o).foldl (j.stackLayer pm j.zones[z].count o) (RGB.zero, [])

/-! ### S3 to S5 (R29 to R31) -/

def levelled (trim master acc : Nat) : Nat := (acc * trim * master + 130432) / 260865

/-- One row of the matrix (R30). -/
def corrected (mr mg mb : Int) (v : RGB) : Nat :=
  (clampInt 0 4095 ((mr * v.r + mg * v.g + mb * v.b + 2048) / 4096)).toNat

def correctedBy (c : CalSet) (v : RGB) : RGB :=
  ⟨corrected c.mRR c.mRG c.mRB v, corrected c.mGR c.mGG c.mGB v, corrected c.mBR c.mBG c.mBB v⟩

/-- The thermal gain (R31). -/
def thermalGain (k temp : Int) : Nat := (clampInt 2048 8191 (4096 + k * (temp - 25))).toNat

def gained (k temp : Int) (v : Nat) : Nat := min 4095 ((v * thermalGain k temp + 2048) / 4096)

def gainedBy (c : CalSet) (temp : Int) (v : RGB) : RGB := ⟨gained c.kR temp v.r, gained c.kG temp v.g, gained c.kB temp v.b⟩

/-! ### One node (R15, R18, R32, R136) -/

/-- The zone of the node at position `p`, in the records the job read (R9). -/
def Job.zoneOf (j : Job) (p : Nat) : Option ZoneId :=
  (List.finRange 16).find? fun z =>
    j.zoneOnLane z && decide (j.zones[z].first ≤ p ∧ p < j.zones[z].first + j.zones[z].count)

/-- S6: the fault policy of the zone on what S5 gives (R32). -/
def faultPolicyOf (policy : FaultPolicy) (flags : FaultFlags) (v : RGB) : RGB :=
  if policy = .blankFaulty ∧ flags ≠ 0 then RGB.zero else v

/-- S1 to S6 of the node at position `p`, with the fault flags that its entry holds when the job reaches it: its duties, and the
mismatched keyframes read on the way. -/
def Job.node (j : Job) (pm : PatternMemory) (working : Tab CalSet 8) (flags : FaultFlags) (p : Nat) :
    RGB × List (TrackId × Nat) :=
  match j.zoneOf p with
  | none => (RGB.zero, [])
  | some z =>
    let acc := j.stacked pm z (p - j.zones[z].first)
    let v := acc.1.map (levelled j.zones[z].trim j.master)
    let c := working[j.zones[z].set]
    (faultPolicyOf j.zones[z].policy flags (gainedBy c j.temp (correctedBy c v)), acc.2)

/-- How many layers contribute to the node at position `p`. -/
def Job.layersAt (j : Job) (p : Nat) : Nat :=
  match j.zoneOf p with
  | none => 0
  | some z => (j.contributing z (p - j.zones[z].first)).length

/-- The time that a node costs, in µs (R136). -/
def Job.nodeCost (j : Job) (p : Nat) : Nat := 2 * (4 + 3 * j.layersAt p)

/-- The cost of a job, in µs. -/
def Job.cost (j : Job) : Nat := ((List.range j.nodeCount).map j.nodeCost).sum

/-! ### S7: the lane budget (R33 to R37) -/

def Job.effectiveBudget (j : Job) : Nat :=
  match j.thermal with
  | .normal => j.budget
  | .derate => j.budget * j.derate / 256
  | .cutoff => 0

/-- The current of a node at these duties, in units of 0.1 mA × 4095. -/
def currentOf (c : CalSet) (v : RGB) : Nat := v.r * c.iR + v.g * c.iG + v.b * c.iB

/-- The current of the node at position `p` at these duties: a node in no zone draws nothing (R34). -/
def Job.draw (j : Job) (working : Tab CalSet 8) (p : Nat) (v : RGB) : Nat :=
  match j.zoneOf p with
  | none => 0
  | some z => currentOf working[j.zones[z].set] v

def Job.held (j : Job) (p : Nat) : Bool := heldIn j.holdSet p

/-- H: the held nodes at their last sent duties. -/
def Job.heldDemand (j : Job) (working : Tab CalSet 8) : Nat :=
  ((List.range j.nodeCount).map fun p =>
    if j.held p then j.draw working p ((j.lastSent.getD p none).getD RGB.zero) else 0).sum

/-- D: the other nodes at the duties that S6 gave. -/
def Job.demand (j : Job) (working : Tab CalSet 8) : Nat :=
  ((List.range j.nodeCount).map fun p =>
    if j.held p then 0 else j.draw working p (j.duties.getD p RGB.zero)).sum

/-- The scale factor s (R35). -/
def budgetScale (cap held demand : Nat) : Nat :=
  if demand = 0 then 65536
  else if held + demand ≤ cap then 65536
  else if cap ≤ held then 0
  else (cap - held) * 65536 / demand

def Job.scale (j : Job) (working : Tab CalSet 8) : Nat :=
  budgetScale (j.effectiveBudget * 4095) (j.heldDemand working) (j.demand working)

/-- A duty scaled by s. -/
def scaled (s duty : Nat) : Nat := duty * s / 65536

/-- The entry of the node at position `p`: HOLD where the job marked it, else the duties scaled by `s` (R36, R37). -/
def Job.entry (j : Job) (s p : Nat) (v : RGB) : Entry := if j.held p then .hold else .colour (v.map (scaled s))

/-- The entries that a BUFFERED lane takes (R36). -/
def Job.entries (j : Job) (working : Tab CalSet 8) : List Entry :=
  (List.range j.nodeCount).map fun p => j.entry (j.scale working) p (j.duties.getD p RGB.zero)

end Sys2Proof.Machine
end

