-- ==== Sys2Proof/Machine/Players.lean ====
section
/-! DEFINITION. The player bank (05): timelines, the tick of a player, start, arm and stop, setups, and the player
commands. -/

namespace Sys2Proof.Machine

/-! ### The timeline (R79) -/

/-- The track that a set of settings names, when it is not FREE. -/
def PatternMemory.trackOf (pm : PatternMemory) (st : Settings) : Option Track :=
  match st.track with
  | none => none
  | some k => pm.tracks[k]

/-- D for a set of settings (log 29: 0 where no track is named, which no running player reaches). -/
def PatternMemory.durationOf (pm : PatternMemory) (st : Settings) : Nat :=
  match pm.trackOf st with
  | none => 0
  | some t => t.duration

/-- The end point U in ms, where there is one. -/
def Settings.endPoint (st : Settings) (d : Nat) : Option Nat :=
  match st.mode with
  | .loop => if st.loops = 0 then none else some (st.loops * d)
  | _ => some d

/-- The time of the hold keyframe. -/
def Track.holdTime (t : Track) (st : Settings) : Nat := t.times.getD (st.holdPoint.getD 0) 0

def PatternMemory.holdTimeOf (pm : PatternMemory) (st : Settings) : Nat :=
  match pm.trackOf st with
  | none => 0
  | some t => t.holdTime st

/-! ### Applying settings at once (R92, R93) -/

/-- E brought into the new timeline. -/
def elapsedUnder (u : Option Nat) (d e : Nat) : Nat :=
  match u with
  | none => e % (d * 256)
  | some u => min e (u * 256)

/-- The settings replaced as a whole, the staged ones gone, and E, state, flag and window as the player's state gives. -/
def Player.applied (x : Player) (st : Settings) (pm : PatternMemory) : Player :=
  let d := pm.durationOf st
  let u := st.endPoint d
  match x.state with
  | .idle | .ended => { x with settings := st, staged := none }
  | .holding => { x with settings := st, staged := none, state := if st.mode = .holdLast then .holding else .ended }
  | .armed => { x with settings := st, staged := none, elapsed := 0, holdPassed := false, windowLeft := none }
  | .paused => { x with settings := st, staged := none, elapsed := elapsedUnder u d x.elapsed }
  | .running | .tail =>
    match u with
    | none =>
      { x with
        settings := st
        staged := none
        elapsed := elapsedUnder u d x.elapsed
        state := .running
        holdPassed := false
        windowLeft := none }
    | some v =>
      { x with
        settings := st
        staged := none
        elapsed := elapsedUnder u d x.elapsed
        state := if x.elapsed < v * 256 then .running else .tail
        holdPassed := decide (st.policy = .extend ∧ pm.holdTimeOf st * 256 ≤ x.elapsed)
        windowLeft := none }

/-- STAGED_APPLIED, when the settings now in force enable it (R95). -/
def stagedNotice (p : PlayerId) (point : TakePoint) (x : Player) : List Notice :=
  if x.settings.endNotice then [⟨.stagedApplied, u8 p.val ++ u8 point.code ++ u32 x.elapsed⟩] else []

/-- A take point: the staged settings, if any, are taken as R93 applies a setup (R95). -/
def Player.take (x : Player) (p : PlayerId) (point : TakePoint) (pm : PatternMemory) : Player × List Notice :=
  match x.staged with
  | none => (x, [])
  | some st => (x.applied st pm, stagedNotice p point (x.applied st pm))

/-! ### The tick of a player (R80 to R84, R86) -/

/-- What one device tick does to a player. `early` are the notices of a take at a wrap or a tail entry; `endNotice` is that of
the player's end and `late` that of a take at the end. -/
structure PlayerTick where
  player : Player
  wrapped : Bool
  paused : Bool
  expired : Bool
  tailEntered : Bool
  ended : Bool
  early : List Notice
  endNotice : List Notice
  late : List Notice
  deriving DecidableEq, Repr

/-- A tick at which nothing happens but what the player record shows. -/
def PlayerTick.plain (x : Player) : PlayerTick := ⟨x, false, false, false, false, false, [], [], []⟩

/-- The notice of an end (R83). -/
def endNoticeOf (p : PlayerId) (x : Player) : List Notice :=
  if x.settings.endNotice then
    [⟨.playerEnd, u8 p.val ++ u8 (x.settings.track.elim 0 Fin.val) ++ u8 x.state.endCode ++ u32 x.elapsed⟩]
  else []

/-- Entering ENDED or HOLDING, with the take of settings staged while the player was in TAIL (R82, R83, R95). -/
def Player.finish (x : Player) (p : PlayerId) (pm : PatternMemory) (r : PlayerTick) : PlayerTick :=
  let y : Player := { x with state := if x.settings.mode = .holdLast then .holding else .ended }
  let z := y.take p .atEnd pm
  { r with player := z.1, ended := true, endNotice := endNoticeOf p y, late := z.2 }

/-- The tail check of a player in TAIL, after E has moved (R82). -/
def Player.tailCheck (x : Player) (p : PlayerId) (pm : PatternMemory) (r : PlayerTick) : PlayerTick :=
  match x.settings.endPoint (pm.durationOf x.settings) with
  | none => { r with player := x }
  | some u => if (u + x.settings.tail) * 256 ≤ x.elapsed then x.finish p pm r else { r with player := x }

/-- Step 5 of R80 for a player that is RUNNING: the entry to TAIL, its take, and the tail check. -/
def Player.stepEnd (x : Player) (p : PlayerId) (pm : PatternMemory) (r : PlayerTick) : PlayerTick :=
  match x.settings.endPoint (pm.durationOf x.settings) with
  | none => { r with player := x }
  | some u =>
    if u * 256 ≤ x.elapsed then
      let y := Player.take { x with state := .tail } p .tailEntry pm
      let r' := { r with player := y.1, tailEntered := true, early := r.early ++ y.2 }
      if y.1.state = .tail then y.1.tailCheck p pm r' else r'
    else { r with player := x }

/-- Whether E, moving from `e` to `e'`, crosses a multiple k × D × 256 with k from 1 to c - 1 (R80 step 4, R86). -/
def crossesWrap (c d e e' : Nat) : Bool := decide (e / (d * 256) + 1 ≤ min (e' / (d * 256)) (c - 1))

/-- A wrap under counted LOOP (step 4), then step 5 while the player is still RUNNING. -/
def Player.stepWrap (x : Player) (p : PlayerId) (pm : PatternMemory) : PlayerTick :=
  let y := x.take p .wrap pm
  let r : PlayerTick := { PlayerTick.plain y.1 with wrapped := true, early := y.2 }
  if y.1.state = .running then y.1.stepEnd p pm r else r

/-- Steps 3 to 5 of R80, E having moved from `x.elapsed` to `e`. -/
def Player.stepOn (x : Player) (p : PlayerId) (pm : PatternMemory) (d e : Nat) : PlayerTick :=
  match x.settings.endPoint d with
  | none =>
    if d * 256 ≤ e then
      let y := Player.take { x with elapsed := e % (d * 256) } p .wrap pm
      { PlayerTick.plain y.1 with wrapped := true, early := y.2 }
    else PlayerTick.plain { x with elapsed := e }
  | some _ =>
    if decide (x.settings.mode = .loop) && crossesWrap x.settings.loops d x.elapsed e then
      Player.stepWrap { x with elapsed := e } p pm
    else Player.stepEnd { x with elapsed := e } p pm (PlayerTick.plain x)

/-- A tick of a player in RUNNING (R80, R81). -/
def Player.tickRunning (x : Player) (p : PlayerId) (pm : PatternMemory) (t : Track) : PlayerTick :=
  let e := x.elapsed + x.settings.rate
  let h := t.holdTime x.settings * 256
  if x.settings.policy = .extend ∧ x.holdPassed = false ∧ h ≤ e then
    { PlayerTick.plain
        { x with state := .paused, elapsed := h, windowLeft := some x.settings.window, holdPassed := true } with
      paused := true }
  else x.stepOn p pm t.duration e

/-- A tick of a player in PAUSED (R84). -/
def Player.tickPaused (x : Player) : PlayerTick :=
  let w := x.windowLeft.getD 0 - 1
  if w = 0 then { PlayerTick.plain { x with state := .running, windowLeft := none } with expired := true }
  else PlayerTick.plain { x with windowLeft := some w }

/-- A tick of a player in TAIL: it returns to RUNNING where its track has grown past E, judged after the move (R82, R86;
log 13). -/
def Player.tickTail (x : Player) (p : PlayerId) (pm : PatternMemory) (t : Track) : PlayerTick :=
  let y : Player := { x with elapsed := x.elapsed + x.settings.rate }
  match x.settings.endPoint t.duration with
  | none => PlayerTick.plain { y with state := .running }
  | some u =>
    if y.elapsed < u * 256 then PlayerTick.plain { y with state := .running }
    else y.tailCheck p pm (PlayerTick.plain y)

/-- One device tick of a player on which players move. A player that names no track stands still (log 29). -/
def Player.tick (x : Player) (p : PlayerId) (pm : PatternMemory) : PlayerTick :=
  match x.state, pm.trackOf x.settings with
  | .running, some t => x.tickRunning p pm t
  | .paused, some _ => x.tickPaused
  | .tail, some t => x.tickTail p pm t
  | _, _ => PlayerTick.plain x

/-! ### Start, arm and stop (R87, R89, R90) -/

/-- A start that sets E to 0, after taking the staged settings (R87, R95). -/
def Player.fromZero (x : Player) (p : PlayerId) (pm : PatternMemory) : Player × List Notice :=
  let y := x.take p .start pm
  ({ y.1 with state := .running, elapsed := 0, holdPassed := false, windowLeft := none }, y.2)

/-- A start that sets E back to the hold time. -/
def Player.backToHold (x : Player) (pm : PatternMemory) : Player :=
  { x with
    state := .paused
    elapsed := pm.holdTimeOf x.settings * 256
    windowLeft := some x.settings.window }

/-- What a start action does to a player that names a track, and its outcome (R87, R88). -/
def Player.start (x : Player) (p : PlayerId) (pm : PatternMemory) : Player × StartOutcome × List Notice :=
  let anew (o : StartOutcome) : Player × StartOutcome × List Notice :=
    ((x.fromZero p pm).1, o, (x.fromZero p pm).2)
  match x.state, x.settings.policy with
  | .idle, _ | .armed, _ | .ended, _ | .holding, _ => anew .started
  | _, .replay => anew .replayed
  | _, .ignore => (x, .discarded, [])
  | .running, .extend => if x.holdPassed then (x.backToHold pm, .extended, []) else (x, .discarded, [])
  | .paused, .extend => ({ x with windowLeft := some x.settings.window }, .extended, [])
  | .tail, .extend => (x.backToHold pm, .extended, [])

/-- Whether the player is on its timeline: RUNNING, PAUSED or TAIL (R89). -/
def PlayerState.busy : PlayerState → Bool
  | .running | .paused | .tail => true
  | _ => false

/-- Arming a player that is not busy; an ARMED one stays as it is (R89). -/
def Player.arm (x : Player) : Player :=
  if x.state = .armed then x else { x with state := .armed, elapsed := 0, holdPassed := false, windowLeft := none }

def Player.stop (x : Player) : Player :=
  { x with state := .idle, elapsed := 0, holdPassed := false, windowLeft := none, staged := none }

/-! ### PLAYER_START, PLAYER_ARM, PLAYER_STOP (R88 to R90) -/

/-- Notices posted one after another. -/
def State.postAll (s : State) (ns : List Notice) : State := ns.foldl (fun s n => s.post n.kind n.fields) s

def Player.stateFields (x : Player) : List Byte := u8 x.state.code ++ u32 x.elapsed

/-- A start action that the player takes, with the notice of a take. -/
def State.startPlayer (s : State) (p : PlayerId) : State :=
  let r := s.players[p].start p s.pattern
  (s.setPlayer p r.1).postAll r.2.2

def cmdPlayerStart (m : LinkMsg) (s : State) : State :=
  match idOf 16 (fieldU8 m.payload 0) with
  | none => s.refuse m .range
  | some p =>
    if s.players[p].settings.track.isNone then s.refuse m .state
    else
      let r := s.players[p].start p s.pattern
      (s.startPlayer p).ok m (u8 r.2.1.code ++ r.1.stateFields)

def execPlayerStart (s : State) : Host.Outcome State Fault Refusal :=
  .next (s.dispatch kindPlayerStart (lenIs 1) false cmdPlayerStart)

/-- The OK carries the state, of an ARMED player too (R89; log 16). -/
def cmdPlayerArm (m : LinkMsg) (s : State) : State :=
  match idOf 16 (fieldU8 m.payload 0) with
  | none => s.refuse m .range
  | some p =>
    if s.players[p].settings.track.isNone then s.refuse m .state
    else if s.players[p].state.busy then s.refuse m .state
    else (s.setPlayer p s.players[p].arm).ok m (u8 s.players[p].arm.state.code)

def execPlayerArm (s : State) : Host.Outcome State Fault Refusal :=
  .next (s.dispatch kindPlayerArm (lenIs 1) false cmdPlayerArm)

def cmdPlayerStop (m : LinkMsg) (s : State) : State :=
  match idOf 16 (fieldU8 m.payload 0) with
  | none => s.refuse m .range
  | some p =>
    (s.setPlayer p s.players[p].stop).ok m (u8 s.players[p].state.code ++ flag s.players[p].staged.isSome)

def execPlayerStop (s : State) : Host.Outcome State Fault Refusal :=
  .next (s.dispatch kindPlayerStop (lenIs 1) false cmdPlayerStop)

/-! ### PLAYER_SETUP (R91 to R94) -/

/-- Check 4 of R91. -/
def holdPointFits (hold : Option Nat) (t : Option Track) : Bool :=
  match hold, t with
  | none, _ => true
  | some _, none => false
  | some i, some t => decide (i + 1 ≤ t.count)

/-- Checks 2 to 4 of R91, in order. -/
def State.setupStatus (s : State) (a : PlayerSetupArgs) : Status :=
  if a.settings.track.isSome && (s.pattern.trackOf a.settings).isNone then .state
  else if a.settings.track.isNone && decide (s.players[a.player].state ≠ .idle) then .state
  else if holdPointFits a.settings.holdPoint (s.pattern.trackOf a.settings) then .ok
  else .range

/-- The states in which a setup is staged when its apply point is AT_WRAP. -/
def PlayerState.stages : PlayerState → Bool
  | .armed | .running | .paused | .tail => true
  | _ => false

/-- OK, or REPLACED where staged settings were replaced or discarded. -/
def Player.setupReply (x : Player) : Status := if x.staged.isSome then .replaced else .ok

def cmdPlayerSetup (m : LinkMsg) (s : State) : State :=
  match parsePlayerSetup m.payload with
  | none => s.refuse m .range
  | some a =>
    match s.setupStatus a with
    | .ok =>
      let x := s.players[a.player]
      if x.state.stages && a.atWrap then
        (s.setPlayer a.player { x with staged := some a.settings }).answer m x.setupReply (u8 1)
      else
        let y := x.applied a.settings s.pattern
        (s.setPlayer a.player y).answer m x.setupReply (u8 0 ++ y.stateFields)
    | status => s.refuse m status

def execPlayerSetup (s : State) : Host.Outcome State Fault Refusal :=
  .next (s.dispatch kindPlayerSetup (lenIs 17) false cmdPlayerSetup)

/-! ### PLAYER_READ (R97) -/

def trackByte (k : TrackId) : List Byte := u8 k.val

/-- The settings fields of a set of staged settings, in the order of R77 (log 14). -/
def Settings.fields (st : Settings) : List Byte :=
  optional trackByte st.track ++ u8 st.mode.code ++ u16 st.rate ++ u8 st.loops ++ u16 st.tail ++ u8 st.policy.code ++
    optional u16 st.holdPoint ++ u16 st.window ++ flag st.endNotice

/-- The end point, where R97 has it. -/
def endPointFields (pm : PatternMemory) (st : Settings) : List Byte :=
  match pm.trackOf st with
  | none => []
  | some t =>
    match st.endPoint t.duration with
    | none => []
    | some u => u32 u

def Player.fields (x : Player) (pm : PatternMemory) : List Byte :=
  x.stateFields ++ flag x.holdPassed ++ (match x.windowLeft with | none => [] | some w => u16 w) ++
    optional trackByte x.settings.track ++ u8 x.settings.mode.code ++ u16 x.settings.rate ++ u8 x.settings.loops ++
    u16 x.settings.tail ++ u8 x.settings.policy.code ++ u16 x.settings.window ++ flag x.settings.endNotice ++
    optional u16 x.settings.holdPoint ++ endPointFields pm x.settings ++ optional Settings.fields x.staged

def cmdPlayerRead (m : LinkMsg) (s : State) : State :=
  match idOf 16 (fieldU8 m.payload 0) with
  | none => s.refuse m .range
  | some p => s.ok m (s.players[p].fields s.pattern)

def execPlayerRead (s : State) : Host.Outcome State Fault Refusal :=
  .next (s.dispatch kindPlayerRead (lenIs 1) true cmdPlayerRead)

end Sys2Proof.Machine
end

