-- ==== Sys2Proof/Machine/Triggers.lean ====
section
/-! DEFINITION. The trigger unit (06): bindings and events, input lines, the thumbwheel, and their commands. -/

namespace Sys2Proof.Machine

/-! ### Handing an action to its target (R113) -/

/-- The part after an action is handed to its target, and why it was skipped, if it was. -/
def State.act (s : State) : BindAction → State × Option SkipCause
  | .start p => if s.players[p].settings.track.isNone then (s, some .noTrack) else (s.startPlayer p, none)
  | .arm p =>
    if s.players[p].settings.track.isNone then (s, some .noTrack)
    else if s.players[p].state.busy then (s, some .playerBusy)
    else (s.setPlayer p s.players[p].arm, none)
  | .stop p =>
    if s.players[p].settings.track.isNone then (s, some .noTrack) else (s.setPlayer p s.players[p].stop, none)
  | .show l =>
    match s.layers[l] with
    | none => (s, some .layerFree)
    | some x => (s.setLayer l (some x.shown), none)
  | .hide l =>
    match s.layers[l] with
    | none => (s, some .layerFree)
    | some x => (s.setLayer l (some x.hidden), none)

def skippedFields (i : BindingId) (b : Binding) (c : SkipCause) : List Byte :=
  u8 i.val ++ u8 b.source.val ++ u8 b.action.code ++ u8 b.action.target ++ u8 c.code

/-- How many bindings' actions an event has had taken and skipped so far. -/
structure Tally where
  taken : Nat
  skipped : Nat
  deriving DecidableEq, Repr

/-- One binding that answers the event. -/
def State.handBinding (s : State) (n : Tally) (i : BindingId) (b : Binding) : State × Tally :=
  match s.act b.action with
  | (t, none) => (t, { n with taken := n.taken + 1 })
  | (t, some c) => (t.post .triggerSkipped (skippedFields i b c), { n with skipped := n.skipped + 1 })

/-- The binding at an index, when it answers events of the source (R112). -/
def State.answering (s : State) (src : SourceId) (i : BindingId) : Option Binding :=
  match s.bindings[i] with
  | none => none
  | some b => if b.enabled && decide (b.source = src) then some b else none

/-- The bindings of a list of indices, one after another. -/
def State.handAll (s : State) (n : Tally) (src : SourceId) : List BindingId → State × Tally
  | [] => (s, n)
  | i :: is =>
    match s.answering src i with
    | none => s.handAll n src is
    | some b => (s.handBinding n i b).1.handAll (s.handBinding n i b).2 src is

/-- The application of one event, in ascending binding index, with what it counted (R112, R114). -/
def State.applyCounted (s : State) (src : SourceId) : State × Tally := s.handAll ⟨0, 0⟩ src (List.finRange 32)

def State.applyEvent (s : State) (src : SourceId) : State := (s.applyCounted src).1

/-! ### Sources (R108) -/

def LineEvent.source (e : LineEvent) : SourceId :=
  if e.rising then ⟨e.line.val, by omega⟩ else ⟨8 + e.line.val, by omega⟩

def sourceWheelStep : SourceId := 16
def sourceWheelTurn : WheelDir → SourceId
  | .up => 17
  | .down => 18
def sourceBand : BandName → SourceId
  | .day => 19
  | .dusk => 20
  | .night => 21
def sourcePlayerEnd (p : PlayerId) : SourceId := ⟨22 + p.val, by omega⟩
def sourceHostEvent (e : Fin 16) : SourceId := ⟨38 + e.val, by omega⟩

/-! ### Input lines (R101, R102, R115) -/

/-- One sample of a line: its record after it, and the edge it made, if any: true for a rising one (R101). -/
def LineRec.sample (x : LineRec) (level : Bool) : LineRec × Option Bool :=
  match x.level with
  | none => ({ x with level := some level, changes := 0 }, none)
  | some v =>
    if level = v then ({ x with changes := 0 }, none)
    else if x.changes + 1 < x.filter then ({ x with changes := x.changes + 1 }, none)
    else ({ x with level := some level, changes := 0 }, some level)

/-- Whether an edge is a trigger event under the line's mode (R102). -/
def LineMode.makes (mode : LineMode) (rising : Bool) : Bool :=
  match mode with
  | .off => false
  | .rise => rising
  | .fall => !rising
  | .both => true

/-- WAKING begins (R186, R187). -/
def State.enterWaking (s : State) (c : WakeCause) : State :=
  s.setPower { s.power with state := .waking, cause := some c, count := 0 }

/-- The parts of a device tick but for the lines and the sense channels, in the order of log 4. -/
def besidesLines : List TickPart :=
  .waking :: ((List.finRange 48).map .fade ++ (List.finRange 16).map .player ++ [.wheel, .sense])

/-- The coming device tick is not one of WAKING: but for the lines nothing of it is taken any more (log 31). -/
def Clocks.passTick (x : Clocks) : Clocks := { x with taken := besidesLines ++ x.taken }

/-- A message starts WAKING. A device tick whose sense part was taken before that is not one of the twenty, so that the sense phase
steps at each of them and two samples fall within them (R167, R187, log 31). -/
def State.wakeByMessage (s : State) : State :=
  (s.enterWaking .message).setClocks (if TickPart.sense ∈ s.clocks.taken then s.clocks.passTick else s.clocks)

/-- A wake event joins the pending list, unless its line has one there (R115). -/
def PowerCtl.holdEvent (x : PowerCtl) (e : LineEvent) : PowerCtl :=
  if x.events.any (fun d => decide (d.line = e.line)) then x else { x with events := x.events ++ [e] }

/-- A line event, handled by the power state (R115). A held one starts WAKING from STANDBY; that device tick is then not one of
WAKING, so whatever the order nothing else of it moves or is sampled (log 31). -/
def State.lineEvent (s : State) (e : LineEvent) : State :=
  match s.power.state with
  | .active | .sleeping => s.applyEvent e.source
  | .waking => if s.lines[e.line].wake then s.setPower (s.power.holdEvent e) else s
  | .standby =>
    if s.lines[e.line].wake then
      let t := (s.setPower (s.power.holdEvent e)).enterWaking (.line e.line)
      t.setClocks t.clocks.passTick
    else s

/-- The sample of one line at a device tick. -/
def State.sampleLine (s : State) (i : LineId) (level : Bool) : State :=
  let r := s.lines[i].sample level
  let t := s.setLine i r.1
  match r.2 with
  | none => t
  | some rising => if s.lines[i].mode.makes rising then t.lineEvent ⟨i, rising⟩ else t

/-! ### The thumbwheel (R105 to R107) -/

/-- The transition from one pair to the next: one up, one down, none, or invalid. -/
inductive Turn where
  | none | up | down | invalid
  deriving DecidableEq, Repr

/-- The place of a pair in the up order 00, 01, 11, 10. -/
def upOrder (p : BitVec 2) : Nat := pairCode p

def turnOf (last pair : BitVec 2) : Turn :=
  match (upOrder pair + 4 - upOrder last) % 4 with
  | 0 => .none
  | 1 => .up
  | 3 => .down
  | _ => .invalid

/-- The transition count after a transition, and the detent it makes, if any. -/
def countTurn (n : Int) : Turn → Int × Option WheelDir
  | .none => (n, Option.none)
  | .up => if n + 1 = 4 then (0, some .up) else (n + 1, Option.none)
  | .down => if n - 1 = -4 then (0, some .down) else (n - 1, Option.none)
  | .invalid => (0, Option.none)

/-- One sample of the wheel. The first after a reset and the first after STANDBY only set the last pair (R105). -/
def Wheel.sample (x : Wheel) (pair : BitVec 2) : Wheel × Option WheelDir :=
  match x.lastPair, x.resync with
  | some last, false =>
    let r := countTurn x.transitions (turnOf last pair)
    ({ x with lastPair := some pair, transitions := r.1 }, r.2)
  | _, _ => ({ x with lastPair := some pair, resync := false }, none)

/-- The index one step on, when it is not at its limit (R106). -/
def stepIndex (i : Fin 64) : WheelDir → Option (Fin 64)
  | .up => if h : i.val + 1 < 64 then some ⟨i.val + 1, h⟩ else none
  | .down => if i.val = 0 then none else some ⟨i.val - 1, by omega⟩

/-- A detent: dropped at a limit; else the index moves, and the turn event comes before WHEEL_STEP (R106, R107). -/
def State.detent (s : State) (d : WheelDir) : State :=
  match stepIndex s.cal.wheelIndex d with
  | none => s
  | some i =>
    let t := (s.setWheelIndex i).setWheel { s.wheel with lastDir := some d }
    let u := match s.wheel.lastDir with
      | none => t
      | some last => if last = d then t else t.applyEvent (sourceWheelTurn d)
    u.applyEvent sourceWheelStep

/-- The sample of the wheel at a device tick: none in STANDBY (R115). -/
def State.sampleWheel (s : State) (pair : BitVec 2) : State :=
  if s.power.state = .standby then s
  else
    let r := s.wheel.sample pair
    let t := s.setWheel r.1
    match r.2 with
    | none => t
    | some d => t.detent d

/-! ### LINE_SETUP (R103) -/

def levelByte (v : Bool) : List Byte := flag v

def LineRec.setup (x : LineRec) (a : LineSetupArgs) : LineRec :=
  { x with mode := a.mode, filter := a.filter, wake := a.wake, changes := 0 }

def cmdLineSetup (m : LinkMsg) (s : State) : State :=
  match parseLineSetup m.payload with
  | none => s.refuse m .range
  | some a => (s.setLine a.line (s.lines[a.line].setup a)).ok m (optional levelByte s.lines[a.line].level)

def execLineSetup (s : State) : Host.Outcome State Fault Refusal :=
  .next (s.dispatch kindLineSetup (lenIs 4) false cmdLineSetup)

/-! ### BIND and UNBIND (R110, R111) -/

def cmdBind (m : LinkMsg) (s : State) : State :=
  match parseBind m.payload with
  | none => s.refuse m .range
  | some (i, b) => (s.setBinding i (some b)).ok m (flag s.bindings[i].isSome)

def execBind (s : State) : Host.Outcome State Fault Refusal :=
  .next (s.dispatch kindBind (lenIs 5) false cmdBind)

def cmdUnbind (m : LinkMsg) (s : State) : State :=
  match idOf 32 (fieldU8 m.payload 0) with
  | none => s.refuse m .range
  | some i => (s.setBinding i none).ok m []

def execUnbind (s : State) : Host.Outcome State Fault Refusal :=
  .next (s.dispatch kindUnbind (lenIs 1) false cmdUnbind)

/-! ### EVENT_INJECT (R114) -/

def cmdEventInject (m : LinkMsg) (s : State) : State :=
  match idOf 16 (fieldU8 m.payload 0) with
  | none => s.refuse m .range
  | some e =>
    let r := s.applyCounted (sourceHostEvent e)
    r.1.ok m (u8 r.2.taken ++ u8 r.2.skipped)

def execEventInject (s : State) : Host.Outcome State Fault Refusal :=
  .next (s.dispatch kindEventInject (lenIs 1) false cmdEventInject)

/-! ### INPUTS_READ (R117) -/

def LineRec.fields (x : LineRec) : List Byte :=
  u8 x.mode.code ++ u8 x.filter ++ flag x.wake ++ optional levelByte x.level ++ u8 x.changes

def pairByte (p : BitVec 2) : List Byte := u8 (pairCode p)

def dirByte (d : WheelDir) : List Byte := u8 d.code

def State.lineFields (s : State) : List Byte :=
  (List.finRange 8).flatMap (fun i => s.lines[i].fields) ++ u8 s.cal.wheelIndex.val ++ optional pairByte s.wheel.lastPair ++
    s8 s.wheel.transitions ++ optional dirByte s.wheel.lastDir ++
    counted (fun e : LineEvent => u8 e.line.val) s.power.events

def Binding.fields (b : Binding) : List Byte :=
  flag b.enabled ++ u8 b.source.val ++ u8 b.action.code ++ u8 b.action.target

/-- One entry of BINDINGS: the index, FREE (0) or IN_USE (1), and the record. -/
def bindingEntry (i : Nat) (b : Option Binding) : List Byte :=
  u8 i ++ (match b with | none => u8 0 | some b => u8 1 ++ b.fields)

/-- The record at an index of the table. -/
def State.bindingAt (s : State) (i : Nat) : Option Binding := if h : i < 32 then s.bindings[i] else none

def State.bindingFields (s : State) (first count : Nat) : List Byte :=
  counted (fun i => bindingEntry i (s.bindingAt i)) (keyRun first count)

def cmdInputsRead (m : LinkMsg) (s : State) : State :=
  match parseInputsRead m.payload with
  | none => s.refuse m .range
  | some none => s.ok m s.lineFields
  | some (some (first, count)) => s.ok m (s.bindingFields first count)

def execInputsRead (s : State) : Host.Outcome State Fault Refusal :=
  .next (s.dispatch kindInputsRead lenInputsRead true cmdInputsRead)

end Sys2Proof.Machine
end

