-- ==== Sys2Proof/Machine/Lanes.lean ====
section
/-! DEFINITION. The operations of the refresh lanes and of the compose engine (08): requests and jobs, frames and slots,
underruns, enabling and resuming, and the entry to STANDBY that their ends bring about (11 R185). -/

namespace Sys2Proof.Machine

/-! ### Temperatures and conditions (R148, R153, R154) -/

/-- The temperature of a thermistor code, in °C. -/
def tempOf (code : BitVec 12) : Int := ((code.toNat * 165 / 4095 : Nat) : Int) - 40

/-- The thermistor channel of a lane. -/
def laneChannel (l : LaneId) : ChannelId := l.castLE (by decide)

def State.laneTemp (s : State) (l : LaneId) : Int := s.sense.codes[laneChannel l].elim 25 tempOf

/-- Whether a frame that begins now is blanked (R148). -/
def State.blanks (s : State) (l : LaneId) : Bool :=
  decide (s.sense.thermal[l].state = .cutoff) || decide (s.sense.supply.state = .high)

def State.sagging (s : State) : Bool := decide (s.sense.supply.state = .sag)

/-! ### Jobs (R16, R17, R135) -/

def Player.snap (x : Player) : PlayerSnap := ⟨x.state, x.elapsed, x.settings.track, x.settings.mode, x.settings.loops⟩

/-- What a job reads at its start. -/
def State.newJob (s : State) (r : Request) : Job where
  lane := r.lane
  stale := r.stale
  startedAt := s.clocks.now
  readyAt := s.clocks.now
  nodeCount := s.lanes[r.lane].nodeCount
  zones := s.zones
  zoneStacks := Vector.ofFn fun z => s.zoneStacks[z].filterMap fun l => s.layers[l]
  players := Vector.ofFn fun p => s.players[p].snap
  master := s.cal.master s.sense.band.band
  temp := s.laneTemp r.lane
  thermal := s.sense.thermal[r.lane].state
  holdSet := s.lanes[r.lane].holdSet
  budget := s.lanes[r.lane].budget
  derate := s.lanes[r.lane].derate
  latency := s.lanes[r.lane].latency
  lastSent := s.lanes[r.lane].lastSent
  scaleHeld := s.lanes[r.lane].scale
  duties := []
  reached := none

/-- With no job in progress, the request at the front of the queue becomes the job (R135). -/
def State.startJob (s : State) : State :=
  match s.engine.job, s.engine.queue with
  | none, r :: rest => s.setEngine ⟨rest, some (s.newJob r)⟩
  | _, _ => s

/-- A lane asks for a job, when it has none queued or in progress (R135). -/
def State.request (s : State) (l : LaneId) : State :=
  if s.engine.outstanding l then s
  else (s.setEngine { s.engine with queue := s.engine.queue ++ [⟨l, false⟩] }).startJob

/-- The outstanding request or job of a lane was raised before the lane resumed (R143, R150). -/
def Engine.markStale (e : Engine) (l : LaneId) : Engine where
  queue := e.queue.map fun r => if r.lane = l then { r with stale := true } else r
  job := e.job.map fun j => if j.lane = l then { j with stale := true } else j

/-! ### Frames (R131, R148) -/

/-- A slot under blanking. -/
def blankEntry (blanked : Bool) : Entry → Entry
  | .hold => .hold
  | .colour c => if blanked then .colour RGB.zero else .colour c

/-- The last sent duties of a node after a slot. -/
def sentAfter (old : Option RGB) : Entry → Option RGB
  | .hold => old
  | .colour c => some c

/-- A slot recorded when it begins (R131, R142). -/
def Lane.recordSlot (x : Lane) (p : Nat) (e : Entry) : Lane :=
  { x with front := x.front.set p e, lastSent := x.lastSent.set p (sentAfter (x.lastSent.getD p none) e) }

/-- A whole frame recorded when it begins, on a BUFFERED lane (R131). -/
def Lane.recordFrame (x : Lane) (slots : List Entry) : Lane :=
  { x with front := slots, lastSent := List.zipWith sentAfter x.lastSent slots }

/-- A frame whose slots are all known begins: on a BUFFERED lane it is recorded at once, on a DIRECT lane slot by slot
(log 21). -/
def Lane.beginKnown (x : Lane) (now : Nat) (blanked : Bool) (slots : List Entry) : Lane :=
  let out := slots.map (blankEntry blanked)
  let f (next : Nat) : Frame := ⟨now, blanked, false, false, false, next, out.map some⟩
  match x.latency with
  | .buffered => { x.recordFrame out with sentSinceEnable := true, frame := some (f x.nodeCount) }
  | .direct => { x with sentSinceEnable := true, frame := some (f 0) }

/-- A DIRECT frame that a job feeds begins (R142). -/
def Lane.beginFed (x : Lane) (now : Nat) (blanked : Bool) : Lane :=
  { x with
    sentSinceEnable := true
    frame := some ⟨now, blanked, true, false, false, 0, List.replicate x.nodeCount none⟩ }

/-- The lane takes no further entry for the frame in flight (R142). -/
def Lane.closeFeed (x : Lane) : Lane := { x with frame := x.frame.map fun f => { f with closed := true } }

/-- The slots of a dark frame (R131). -/
def Lane.darkSlots (x : Lane) : List Entry :=
  (List.range x.nodeCount).map fun p => if heldIn x.holdSet p then .hold else .colour RGB.zero

def Lane.holdSlots (x : Lane) : List Entry := List.replicate x.nodeCount .hold

def State.beginFrame (s : State) (l : LaneId) (slots : List Entry) : State :=
  s.setLane l (s.lanes[l].beginKnown s.clocks.now (s.blanks l) slots)

/-- A dark frame begins, unless the supply sags (R138, R185). -/
def State.beginDark (s : State) (l : LaneId) : State :=
  if s.sagging then s
  else
    let t := s.beginFrame l s.lanes[l].darkSlots
    t.setLane l { t.lanes[l] with darkSent := true }

/-- A dark frame begins at once, or when the frame in flight ends. -/
def State.darkNowOrNext (s : State) (l : LaneId) : State :=
  if s.lanes[l].frame.isSome then s.setLane l { s.lanes[l] with darkOwed := true } else s.beginDark l

/-- When slot `p` of a frame begins (R131). -/
def Lane.slotStart (x : Lane) (f : Frame) (p : Nat) : Nat := f.beganAt + 100 + p * slotTime x.bitRate

/-- When a frame ends (R131). -/
def Lane.frameEnd (x : Lane) (f : Frame) : Nat := f.beganAt + x.frameTime

/-! ### Underruns (R144) -/

def underrunFields (l : LaneId) (x : Lane) (count : Nat) : List Byte :=
  u8 l.val ++ u8 x.latency.code ++ u8 (if x.latency = .buffered then 0 else 1) ++ u16 count

/-- `n` underruns of one frame, the first of which posts UNDERRUN when it may and the lane is armed. -/
def State.underrun (s : State) (l : LaneId) (n : Nat) (mayPost : Bool) : State :=
  let x := s.lanes[l]
  if n = 0 then s
  else if x.armed && mayPost then
    (s.setLane l { x with underruns := saturate16 (x.underruns + n), armed := false }).post .underrun
      (underrunFields l x (saturate16 (x.underruns + 1)))
  else s.setLane l { x with underruns := saturate16 (x.underruns + n) }

/-! ### DIRECT slots (R142) -/

/-- Whether the job that feeds the lane marks, or will mark, a position held (log 17). -/
def State.marksHeld (s : State) (l : LaneId) (p : Nat) : Bool :=
  match s.engine.job with
  | some j => if j.lane = l then j.held p else heldIn s.lanes[l].holdSet p
  | none => heldIn s.lanes[l].holdSet p

/-- S1 to S6 of the job's next node, read when the job reaches it: at its NODE_COMPOSE step, or before that at the slot which
carries its entry (R32, log 39). -/
def State.nextNode (s : State) (j : Job) : RGB × List (TrackId × Nat) :=
  let p := j.duties.length
  j.reached.getD (j.node s.pattern s.cal.working (s.lanes[j.lane].faults.getD p 0) p)

/-- Whether the job feeds a slot of lane `l` for position `p` with the node that it composes next, ready by the slot's due time. -/
def Job.meets (j : Job) (l : LaneId) (p due : Nat) : Bool :=
  decide (j.lane = l ∧ j.stale = false ∧ j.duties.length = p ∧ p < j.nodeCount ∧ j.readyAt + j.nodeCost p ≤ due)

/-- The job that hands over the entry of a frame's next slot at its due time: an entry that becomes ready at that time itself is
carried, whichever of the two steps the queue brings first (R142). -/
def State.jobMet (s : State) (l : LaneId) (f : Frame) : Option Job :=
  if f.fed && !f.closed && (f.slots.getD f.nextSlot none).isNone then
    s.engine.job.filter fun j => j.meets l f.nextSlot (s.lanes[l].slotStart f f.nextSlot)
  else none

/-- A job whose next node a slot carries has reached that node: it composes the node from what it read then (R32, log 39). -/
def State.reachNode (s : State) (l : LaneId) (f : Frame) : State :=
  match s.jobMet l f with
  | none => s
  | some j => s.setEngine { s.engine with job := some { j with reached := some (s.nextNode j) } }

/-- The entry that the lane has for the next slot of a frame, if it has one by the slot's due time (R142). -/
def State.entryFor (s : State) (l : LaneId) (f : Frame) : Option Entry :=
  (f.slots.getD f.nextSlot none).or ((s.jobMet l f).map fun j => j.entry j.scaleHeld f.nextSlot (s.nextNode j).1)

/-- The slot that a frame sends next: what the slot carries, and whether it is late. Once the lane takes no further entry, each
slot of a frame that a job feeds is HOLD and counts nothing (R142). -/
def State.nextEntry (s : State) (l : LaneId) (f : Frame) : Entry × Bool :=
  if f.fed && f.closed then (.hold, false)
  else
    match s.entryFor l f with
    | some e => (blankEntry f.blanked e, false)
    | none => (.hold, !f.closed && !s.marksHeld l f.nextSlot)

/-- The next slot of the frame in flight is sent and recorded. -/
def State.sendSlot (s : State) (l : LaneId) : State :=
  match s.lanes[l].frame with
  | none => s
  | some f =>
    if f.nextSlot < s.lanes[l].nodeCount then
      let r := s.nextEntry l f
      let g : Frame := { f with nextSlot := f.nextSlot + 1, lateSeen := f.lateSeen || r.2 }
      let t := (s.reachNode l f).setLane l { s.lanes[l].recordSlot f.nextSlot r.1 with frame := some g }
      if r.2 then t.underrun l 1 (!f.lateSeen) else t
    else s

def State.sendSlots (l : LaneId) : Nat → State → State
  | 0, s => s
  | n + 1, s => State.sendSlots l n (s.sendSlot l)

/-- A node's entry is handed to its lane: it is kept for its slot when the slot has not been sent, the lane still takes
entries, and the entry is ready by the slot's due time (R142). -/
def Lane.takeEntry (x : Lane) (p ready : Nat) (e : Entry) : Lane :=
  match x.frame with
  | none => x
  | some f =>
    if f.fed && !f.closed && decide (f.nextSlot ≤ p ∧ ready ≤ x.slotStart f p) then
      { x with frame := some { f with slots := f.slots.set p (some e) } }
    else x

/-! ### Enabling, resuming and pausing (R137, R149, R150) -/

/-- What an enable and a resume renew. -/
def Lane.renew (x : Lane) (now : Nat) : Lane :=
  { x with
    lastSent := List.replicate x.nodeCount none
    sentSinceEnable := false
    backReady := false
    scale := if x.latency = .direct then 65536 else x.scale
    soloDue := if x.timing = .solo then some (now + x.soloPeriod) else none }

/-- The state that an enable or a resume enters: PAUSED while the supply sags. -/
def State.enteredState (s : State) : LaneState := if s.sagging then .paused else .starting

/-- A BUFFERED lane in STARTING raises a request at once, in ACTIVE. -/
def State.firstRequest (s : State) (l : LaneId) : State :=
  if s.lanes[l].state = .starting ∧ s.lanes[l].latency = .buffered ∧ s.power.state = .active then s.request l else s

def State.enableLane (s : State) (l : LaneId) : State :=
  (s.setLane l { s.lanes[l].renew s.clocks.now with state := s.enteredState, darkOwed := false }).firstRequest l

/-- Whether SLEEP with DARK is in dispatch. -/
def State.sleepsDark (s : State) : Bool :=
  match s.link.inDispatch with
  | some (.sleep _ dark) => dark
  | _ => false

/-- A lane that enters STARTING in SLEEPING under DARK without having sent a dark frame sends one at once (R185). -/
def State.darkOnResume (s : State) (l : LaneId) : State :=
  if decide (s.power.state = .sleeping) && s.sleepsDark && decide (s.lanes[l].state = .starting) &&
      !s.lanes[l].darkSent then s.darkNowOrNext l
  else s

/-- A lane resumes as from enable (R150): an outstanding job is marked as raised before the resume. -/
def State.resumeLane (s : State) (l : LaneId) : State :=
  ((s.setEngine (s.engine.markStale l)).enableLane l).darkOnResume l

/-- The lanes in the order in which their resumes are taken: those named first, then the others in ascending number
(log 11). -/
def resumeOrder (first : List LaneId) : List LaneId := first ++ (List.finRange 4).filter fun l => !first.contains l

/-- The lanes in these states resume, one after another. -/
def State.resumeWhere (s : State) (first : List LaneId) (which : LaneState → Bool) : State :=
  (resumeOrder first).foldl (fun t l => if which t.lanes[l].state then t.resumeLane l else t) s

/-- A lane is held off by a sag (R149). -/
def Lane.pause (x : Lane) : Lane := { x.closeFeed with state := .paused, darkOwed := false }

/-! ### Refresh ticks (R139 to R143, R149, R151) -/

/-- A lane that sends its back buffer: an ON_DEMAND lane only when the frame differs from the last one sent (R140). -/
def State.sendBack (s : State) (l : LaneId) : State :=
  let x := s.lanes[l]
  let t := s.setLane l { x with backReady := false, state := .running }
  if x.timing = .onDemand ∧ x.sentSinceEnable = true ∧ x.back.map (blankEntry (s.blanks l)) = x.front then t
  else t.beginFrame l x.back

def State.tickBuffered (s : State) (l : LaneId) : State :=
  if s.lanes[l].backReady then (s.sendBack l).request l
  else if s.engine.outstanding l && decide (s.lanes[l].state = .running) then
    (s.beginFrame l s.lanes[l].holdSlots).underrun l 1 true
  else s

/-- How many positions lie outside the hold set. -/
def Lane.unheldCount (x : Lane) : Nat := (List.range x.nodeCount).countP fun p => !heldIn x.holdSet p

def State.tickDirect (s : State) (l : LaneId) : State :=
  let x := s.lanes[l]
  if s.engine.outstanding l then
    let t := s.beginFrame l x.holdSlots
    if x.state = .running then t.underrun l x.unheldCount true else t
  else (s.setLane l { x.beginFed s.clocks.now (s.blanks l) with state := .running }).request l

/-- A refresh tick of a lane. -/
def State.tickLane (s : State) (l : LaneId) : State :=
  let x := s.lanes[l]
  if x.state = .starting ∨ x.state = .running then
    match s.power.state with
    | .active =>
      if s.sagging then s.setLane l x.pause
      else if x.latency = .buffered then s.tickBuffered l else s.tickDirect l
    | .sleeping => if s.sagging then s.setLane l x.pause else s
    | .standby => s
    | .waking => s
  else s

/-! ### The entry to STANDBY (R185, R186) -/

/-- A channel of the coming sense tick has been sampled ahead of it, and the others have not: all six are converted at that tick, so
it is not left unfinished (R153, log 38). -/
def State.senseBegun (s : State) : Bool :=
  decide (TickPart.sense ∉ s.clocks.taken) &&
    (List.finRange 6).any fun c => decide (TickPart.channel c ∈ s.clocks.taken)

/-- Every lane's last frame has ended, the engine is idle, and no sense tick has been begun. -/
def State.atRest (s : State) : Bool :=
  decide (s.power.state = .sleeping) && (List.finRange 4).all (fun l => s.lanes[l].frame.isNone) &&
    s.engine.queue.isEmpty && s.engine.job.isNone && !s.senseBegun

def State.enabledLanes (s : State) : Nat := (List.finRange 4).countP fun l => decide (s.lanes[l].state ≠ .disabled)

/-- The reply of SLEEP and STANDBY_ENTERED; with messages in the buffer the part leaves STANDBY at once (R186). -/
def State.enterStandby (s : State) (m : LinkMsg) (dark : Bool) : State :=
  let t := (s.setPower { s.power with state := .standby }).setWheel { s.wheel with resync := true }
  let u := (t.ok m (u8 (finishCode dark))).post .standbyEntered (u8 (finishCode dark) ++ u8 s.enabledLanes)
  if s.link.buffer.isEmpty then u else u.wakeByMessage

def State.standbyCheck (s : State) : State :=
  match s.link.inDispatch with
  | some (.sleep m dark) => if s.atRest then s.enterStandby m dark else s
  | _ => s

/-! ### The end of a frame (R131, R138, R146) -/

/-- The fault map entry of the polled position, and the notice of its first flag. -/
def State.recordAnswer (s : State) (l : LaneId) (answer : BitVec 24) : State :=
  let x := s.lanes[l]
  let old := x.faults.getD x.poll 0
  let new := old ||| answerFlags x.poll answer
  let t := s.setLane l { x with faults := x.faults.set x.poll new }
  if old = 0 ∧ new ≠ 0 then t.post .nodeFault (u8 l.val ++ u8 x.poll ++ [flagsByte new]) else t

/-- The poll index moves on, and no frame is in flight. -/
def Lane.frameOver (x : Lane) : Lane := { x with frame := none, poll := (x.poll + 1) % x.nodeCount }

/-- The dark frame that a lane owes begins when the frame in flight ends. -/
def State.payDark (s : State) (l : LaneId) : State :=
  if s.lanes[l].darkOwed then (s.setLane l { s.lanes[l] with darkOwed := false }).beginDark l else s

/-- A STOPPING lane with no frame left becomes DISABLED, and LANE_DISABLE is answered (R138). -/
def State.stopIfDone (s : State) (l : LaneId) : State :=
  if s.lanes[l].state = .stopping ∧ s.lanes[l].frame = none then
    let t := s.setLane l { s.lanes[l] with state := .disabled, soloDue := none }
    match t.link.inDispatch with
    | some (.laneDisable m k) => if k = l then t.ok m [] else t
    | _ => t
  else s

/-- The return window of a lane's frame ends; slots not yet taken one by one are sent first (log 18). -/
def State.endFrame (s : State) (l : LaneId) (f : Frame) (answer : BitVec 24) : State :=
  let t := State.sendSlots l (s.lanes[l].nodeCount - f.nextSlot) (s.clockTo (s.lanes[l].frameEnd f))
  let u := t.recordAnswer l answer
  ((u.setLane l u.lanes[l].frameOver).payDark l).stopIfDone l

/-! ### The end of a job (R36 to R38, R68, R121, R135, R136) -/

/-- The lane takes what a job hands over, or drops it. -/
def State.takeResult (s : State) (j : Job) : State :=
  let x := s.lanes[j.lane]
  if (x.state = .running ∨ x.state = .starting) ∧ s.power.state = .active then
    match j.latency with
    | .buffered =>
      s.setLane j.lane { x with back := j.entries s.cal.working, backReady := true, scale := j.scale s.cal.working }
    | .direct => if j.stale then s else s.setLane j.lane { x with scale := j.scale s.cal.working }
  else s

/-- The write that the job held is applied and answered (R68, R121). -/
def State.applyHeld (s : State) : State :=
  match s.link.inDispatch with
  | some (.heldKeys m) =>
    match parseKeysWrite m.payload with
    | none => s
    | some a => s.finishKeysWrite m a
  | some (.heldSet m) =>
    match calTarget s.cal m with
    | none => s
    | some (w, x) => s.finishCal m w x
  | _ => s

/-- A job whose last node is composed completes; then the held write is applied, and the next job starts. -/
def State.completeJob (s : State) (j : Job) : State :=
  let t := (s.clockTo j.readyAt).takeResult j
  (((t.setEngine { t.engine with job := none }).applyHeld).startJob).standbyCheck

/-- The job whose nodes are all composed, if there is one. -/
def Engine.finished (e : Engine) : Option Job :=
  match e.job with
  | none => none
  | some j => if j.duties.length < j.nodeCount then none else some j

/-- One node of the job in progress is composed (R136): S1 to S6, the mismatches found, and the entry for a DIRECT lane. -/
def State.composeNode (s : State) (j : Job) : State :=
  let p := j.duties.length
  let r := s.nextNode j
  let ready := j.readyAt + j.nodeCost p
  let t := (s.clockTo ready).reportAll r.2
  let u := t.setEngine { t.engine with job := some { j with duties := j.duties ++ [r.1], readyAt := ready, reached := none } }
  match j.latency with
  | .buffered => u
  | .direct =>
    if j.stale then u else u.setLane j.lane (u.lanes[j.lane].takeEntry p ready (j.entry j.scaleHeld p r.1))

end Sys2Proof.Machine
end

