-- ==== Sys2Proof/Machine/Power.lean ====
section
/-! DEFINITION. The power controller (11): SLEEP, STANDBY, WAKING and WAKE, and the two resets. -/

namespace Sys2Proof.Machine

/-! ### SLEEP and the entry to STANDBY (R185, R186) -/

/-- What the entry to SLEEPING does to a lane, before its dark frame: it takes no further entry of a job (R142). -/
def Lane.toSleep (x : Lane) : Lane := { x.closeFeed with darkSent := false }

/-- The lanes at the entry to SLEEPING: with DARK each lane in STARTING or RUNNING sends one dark frame. -/
def State.sleepLane (s : State) (dark : Bool) (l : LaneId) : State :=
  let t := s.setLane l s.lanes[l].toSleep
  if dark && (decide (s.lanes[l].state = .starting) || decide (s.lanes[l].state = .running)) then t.darkNowOrNext l
  else t

def State.goToSleep (s : State) (m : LinkMsg) (dark : Bool) : State :=
  let t := (s.setPower { s.power with state := .sleeping }).hold (.sleep m dark)
  ((List.finRange 4).foldl (fun u l => u.sleepLane dark l) t).standbyCheck

def cmdSleep (m : LinkMsg) (s : State) : State :=
  match finishOf (fieldU8 m.payload 0) with
  | none => s.refuse m .range
  | some dark => s.goToSleep m dark

def execSleep (s : State) : Host.Outcome State Fault Refusal := .next (s.dispatch kindSleep (lenIs 1) false cmdSleep)

/-- The entry to STANDBY when its condition holds (log 24). -/
def execStandbyEntry (s : State) : Host.Outcome State Fault Refusal := .next s.standbyCheck

/-! ### WAKE and the entry to ACTIVE (R187, R188) -/

def cmdWake (m : LinkMsg) (s : State) : State := if s.power.state = .waking then s.hold (.wake m) else s.ok m []

def execWake (s : State) : Host.Outcome State Fault Refusal := .next (s.dispatch kindWake (lenIs 0) true cmdWake)

/-- The cause of a WAKE notice: MESSAGE, or LINE with its line. -/
def wakeCauseFields : Option WakeCause → List Byte
  | some (.line i) => u8 1 ++ u8 i.val
  | _ => u8 0

/-- The pending wake events are applied oldest first, and the list is emptied (R116). -/
def State.deliver (s : State) : State :=
  s.power.events.foldl (fun t e => t.applyEvent e.source) (s.setPower { s.power with events := [] })

/-- Every lane that is not DISABLED resumes as from enable (R188). -/
def State.resumeAll (s : State) (first : List LaneId) : State := s.resumeWhere first (· ≠ .disabled)

/-- Delivery and the lanes' resumes, either first (R188). -/
def State.wakeUp (s : State) (ch : Choices) : State :=
  if ch.resumeFirst then (s.resumeAll ch.lanesFirst).deliver else s.deliver.resumeAll ch.lanesFirst

/-- The reply of a WAKE that waits for the entry to ACTIVE. -/
def State.answerWake (s : State) : State :=
  match s.link.inDispatch with
  | some (.wake m) => s.ok m []
  | _ => s

/-- The entry to ACTIVE (R188). -/
def State.enterActive (s : State) (ch : Choices) : State :=
  let t := (s.setPower { s.power with state := .active }).post .wake
    (wakeCauseFields s.power.cause ++ u8 s.power.events.length)
  let u := t.wakeUp ch
  (u.setPower { u.power with cause := none }).answerWake

/-! ### RESTART and the resets (R182, R189, R190) -/

/-- Replies that wait join the queue while it has room (R176, R182). -/
def LinkState.joinWaiting (k : LinkState) : LinkState :=
  match k.inDispatch with
  | some (.replyWaiting r) => k.joinReply r
  | some (.restart own later) =>
    { k with
      replies := k.replies ++ (own ++ later).take (8 - k.replies.length)
      inDispatch := some
        (.restart (own.drop (8 - k.replies.length)) (later.drop (8 - k.replies.length - own.length))) }
  | _ => k

/-- The OK of RESTART, and a BUSY for each message behind it. -/
def restartReplies (m : LinkMsg) (buffer : List LinkMsg) : List Reply :=
  replyTo m .ok [] :: buffer.map fun n => replyTo n .busy []

def LinkState.beginRestart (k : LinkState) (m : LinkMsg) : LinkState :=
  LinkState.joinWaiting { k with buffer := [], inDispatch := some (.restart (restartReplies m k.buffer) []) }

def cmdRestart (m : LinkMsg) (s : State) : State := s.setLink (s.link.beginRestart m)

def execRestart (s : State) : Host.Outcome State Fault Refusal :=
  .next (s.dispatch kindRestart (lenIs 0) false cmdRestart)

/-- RESTART is in dispatch, and every reply has joined the queue and left it. -/
def LinkState.drained (k : LinkState) : Bool := decide (k.inDispatch = some (.restart [] [])) && k.replies.isEmpty

/-- When the link message being sent ends. -/
def LinkState.lineFree (k : LinkState) : Nat := k.tx.elim 0 Transmission.endsAt

/-- The reset comes when the last reply has been sent in full. -/
def execRestartReset (s : State) : Host.Outcome State Fault Refusal :=
  .next
    (if s.link.drained then
      State.afterReset 1 (max s.clocks.now s.link.lineFree) s.pattern s.cal.restarted s.pending
    else s)

def execPowerOnReset (s : State) : Host.Outcome State Fault Refusal :=
  .next (State.afterReset 0 0 PatternMemory.powerOn (CalStore.powerOn s.cal.factory) s.pending)

end Sys2Proof.Machine
end

