-- ==== Sys2Proof/Machine/Link.lean ====
section
/-! DEFINITION. The link controller (10): the receive parser, the buffer, the transmit arbiter, and its own commands. -/

namespace Sys2Proof.Machine

/-! ### Checksums (R169) -/

def byteSum (bs : List Byte) : Byte := bs.foldl (· + ·) 0

/-- The link message of a reply or a notice: SOF, LEN, TAG, KIND, payload, CHK. -/
def frameBytes (tag kind : Byte) (payload : List Byte) : List Byte :=
  let body := BitVec.ofNat 8 (payload.length + 2) :: tag :: kind :: payload
  0xC3 :: body ++ [-byteSum body]

/-! ### Receiving (R170 to R172) -/

/-- A fault ends the message: the parser hunts, and LINK_FAULT is posted. -/
def State.linkFault (s : State) (c : LinkFaultCause) (count : Nat) : State :=
  (s.setLink { s.link with parser := .hunting }).post .linkFault (u8 c.code ++ u8 count)

/-- A good message that arrives while RESTART is in dispatch: while its OK or a BUSY of a message it removed still waits to join, a
BUSY behind all that wait, dropped and counted where the queue is full; after that it is discarded, though a BUSY of an earlier
arrival may still wait (R182, log 23). -/
def LinkState.restartArrival (k : LinkState) (own later : List Reply) (m : LinkMsg) : LinkState :=
  if own.isEmpty then k
  else if k.replies.length < 8 then { k with inDispatch := some (.restart own (later ++ [replyTo m .busy []])) }
  else { k with busyDrops := saturate16 (k.busyDrops + 1) }

/-- A good message that joins the buffer starts WAKING from STANDBY (R172, R186). -/
def State.bufferMessage (s : State) (m : LinkMsg) : State :=
  let t := s.setLink { s.link with buffer := s.link.buffer ++ [m] }
  if s.power.state = .standby then t.wakeByMessage else t

/-- A good message (R172). -/
def State.goodMessage (s : State) (m : LinkMsg) : State :=
  match s.link.inDispatch with
  | some (.restart own later) => s.setLink (s.link.restartArrival own later m)
  | _ => if s.link.buffer.length < 4 then s.bufferMessage m else s.setLink (s.link.busyReply m)

/-- The message of the bytes after LEN. -/
def messageOf (got : List Byte) : LinkMsg := ⟨got.getD 0 0, got.getD 1 0, got.drop 2⟩

def State.setParser (s : State) (p : Parser) : State := s.setLink { s.link with parser := p }

/-- The parser's move on a byte (R170). The byte that makes a fault is counted with the bytes received (log 35). -/
def State.parse (s : State) (b : RxByte) : State :=
  match s.link.parser with
  | .hunting => if b.framingError = false ∧ b.data = 0xC3 then s.setParser .length else s
  | .length =>
    if b.framingError = false ∧ 2 ≤ b.data.toNat ∧ b.data.toNat ≤ 198 then s.setParser (.body b.data [])
    else s.linkFault .length 2
  | .body len got =>
    if b.framingError then s.linkFault .check (got.length + 3)
    else if got.length + 1 < len.toNat then s.setParser (.body len (got ++ [b.data]))
    else s.setParser (.checking len (got ++ [b.data]))
  | .checking len got =>
    if b.framingError = false ∧ len + byteSum got + b.data = 0 then (s.setParser .hunting).goodMessage (messageOf got)
    else s.linkFault .check (got.length + 3)

/-- The bytes of the message received so far, counting SOF; none in HUNTING. -/
def Parser.received : Parser → Option Nat
  | .hunting => none
  | .length => some 1
  | .body _ got => some (2 + got.length)
  | .checking _ got => some (2 + got.length)

/-- 2 ms have passed since the last byte ended (R171); in HUNTING no timer runs (log 1). -/
def State.timeout (s : State) : State :=
  match s.link.parser.received with
  | none => s
  | some n => (s.clockTo (s.link.lastByteEnd + 2000)).linkFault .timeout n

/-- The start bit of a byte comes more than 2 ms after the end of the last byte: the timer has run out before it. The two at one
moment are taken in the order of the queue (R171). -/
def LinkState.gapBefore (k : LinkState) (b : RxByte) : Bool := decide (k.lastByteEnd + 2000 + 40 < b.endsAt)

/-- A byte received: it restarts the inter-byte timer. After a gap that the timer ends, it is judged in HUNTING (R171). -/
def State.receive (s : State) (b : RxByte) : State :=
  let u := if s.link.gapBefore b then s.timeout else s
  let t := u.clockTo b.endsAt
  (t.setLink { t.link with lastByteEnd := b.endsAt }).parse b

def State.receiveAll (s : State) (rx : List RxByte) : State := rx.foldl State.receive s

def execByteReceived (b : RxByte) (s : State) : Host.Outcome State Fault Refusal := .next (s.receive b)

/-- The bytes of a message, the last of which completes it (log 35). -/
def execMessageReceived (rx : List RxByte) (s : State) : Host.Outcome State Fault Refusal := .next (s.receiveAll rx)

/-- The bytes of a message, the last of which makes a fault (log 35). -/
def execReceiveFault (rx : List RxByte) (s : State) : Host.Outcome State Fault Refusal := .next (s.receiveAll rx)

def execInterByteTimeout (s : State) : Host.Outcome State Fault Refusal := .next s.timeout

/-! ### Dispatch and the reply queue (R174, R176) -/

def execDispatchBadKind (s : State) : Host.Outcome State Fault Refusal :=
  .next
    (match s.frontMessage with
     | none => s
     | some m => if m.kind ∈ commandKinds then s else s.takeFront.refuse m .badKind)

def execReplyQueueJoin (s : State) : Host.Outcome State Fault Refusal := .next (s.setLink s.link.joinWaiting)

/-! ### The transmit arbiter (R177, R178, R181, R182) -/

def LinkState.restarting (k : LinkState) : Bool :=
  match k.inDispatch with
  | some (.restart _ _) => true
  | _ => false

/-- A link message begins at the moment `t`: 40 µs a byte (R168). -/
def LinkState.send (k : LinkState) (t : Nat) (bytes : List Byte) : LinkState :=
  { k with tx := some ⟨bytes, t + 40 * bytes.length⟩ }

/-- The bytes of a notice: its LOST byte, then its fields. -/
def noticeBytes (n : Notice) (lost : Bool) : List Byte := frameBytes 0 n.kind.code (flag lost ++ n.fields)

def replyBytes (r : Reply) : List Byte := frameBytes r.tag r.kind r.payload

/-- The line is free at `t`: the oldest reply is sent, else the oldest notice, unless RESTART is in dispatch. -/
def LinkState.grant (k : LinkState) (t : Nat) : LinkState :=
  match k.replies, k.notices with
  | r :: rest, _ => ({ k with replies := rest }).send t (replyBytes r)
  | [], n :: rest =>
    if k.restarting then k else ({ k with notices := rest, lost := false }).send t (noticeBytes n k.lost)
  | [], [] => k

/-- Whether a grant has something to send. -/
def LinkState.hasTraffic (k : LinkState) : Bool :=
  !k.replies.isEmpty || (!k.notices.isEmpty && !k.restarting)

def execTransmitGrant (s : State) : Host.Outcome State Fault Refusal :=
  .next
    (if s.link.hasTraffic then
      let t := s.clockTo s.link.lineFree
      t.setLink (t.link.grant t.clocks.now)
    else s)

/-! ### STATUS_READ and NOTICE_MASK (R179, R180) -/

def laneByte (l : LaneId) : List Byte := u8 l.val

def State.statusFields (s : State) : List Byte :=
  u8 s.power.state.code ++ u8 s.link.buffer.length ++ u8 s.link.replies.length ++ u8 s.link.notices.length ++
    flag s.link.lost ++ (List.finRange 13).flatMap (fun j => flag s.link.mask[j]) ++ u16 s.link.busyDrops ++
    (List.finRange 4).flatMap (fun l => u8 s.lanes[l].state.code) ++
    counted (fun r : Request => laneByte r.lane) s.engine.queue ++
    optional laneByte (s.engine.job.map Job.lane)

def cmdStatusRead (m : LinkMsg) (s : State) : State := s.ok m s.statusFields

def execStatusRead (s : State) : Host.Outcome State Fault Refusal :=
  .next (s.dispatch kindStatusRead (lenIs 0) true cmdStatusRead)

def maskBytes (mask : Tab Bool 13) : List Byte := (List.finRange 13).flatMap fun j => flag mask[j]

def cmdNoticeMask (m : LinkMsg) (s : State) : State :=
  match parseNoticeMask m.payload with
  | none => s.refuse m .range
  | some mask => (s.setLink { s.link with mask := mask }).ok m (maskBytes s.link.mask)

def execNoticeMask (s : State) : Host.Outcome State Fault Refusal :=
  .next (s.dispatch kindNoticeMask (lenIs 13) false cmdNoticeMask)

end Sys2Proof.Machine
end

