-- ==== Sys2Proof/Machine/Refresh.lean ====
section
/-! DEFINITION. The lane commands, the refresh ticks, the ends of frames, and the steps of the compose engine (01, 08,
09 9.7). -/

namespace Sys2Proof.Machine

/-! ### LANE_SETUP (R5, R6) -/

/-- The node counts of the other lanes. -/
def State.otherNodes (s : State) (l : LaneId) : Nat :=
  ((List.finRange 4).map fun k => if k = l then 0 else s.lanes[k].nodeCount).sum

/-- Every DEFINED zone on the lane ends within a node count. -/
def State.zonesWithin (s : State) (l : LaneId) (n : Nat) : Bool :=
  (List.finRange 16).all fun z =>
    !(s.zones[z].defined && decide (s.zones[z].lane = l)) || decide (s.zones[z].first + s.zones[z].count ≤ n)

/-- The position-indexed state rebuilt for a new chain (R6). -/
def Lane.rebuild (x : Lane) (n : Nat) : Lane :=
  { x with
    nodeCount := n
    front := darkEntries n
    back := darkEntries n
    lastSent := List.replicate n none
    holdSet := []
    faults := List.replicate n 0
    poll := 0 }

/-- The lane after an accepted LANE_SETUP. -/
def Lane.setup (x : Lane) (a : LaneSetupArgs) : Lane :=
  { (if a.count = x.nodeCount then x else x.rebuild a.count) with
    bitRate := a.rate
    timing := a.timing
    latency := a.latency
    soloPeriod := a.solo }

/-- Checks 2 to 5 of R5, in order. -/
def State.laneSetupStatus (s : State) (a : LaneSetupArgs) : Status :=
  if s.lanes[a.lane].state ≠ .disabled ∨ s.engine.outstanding a.lane = true then .state
  else if 256 < a.count + s.otherNodes a.lane then .nodePool
  else if !s.zonesWithin a.lane a.count then .inUse
  else if (s.lanes[a.lane].setup a).fits s.clocks.groupPeriod then .ok
  else .timing

def cmdLaneSetup (m : LinkMsg) (s : State) : State :=
  match parseLaneSetup m.payload with
  | none => s.refuse m .range
  | some a =>
    match s.laneSetupStatus a with
    | .ok => (s.setLane a.lane (s.lanes[a.lane].setup a)).ok m []
    | status => s.refuse m status

def execLaneSetup (s : State) : Host.Outcome State Fault Refusal :=
  .next (s.dispatch kindLaneSetup (lenIs 7) false cmdLaneSetup)

/-! ### LANE_ENABLE (R137) -/

def cmdLaneEnable (m : LinkMsg) (s : State) : State :=
  match idOf 4 (fieldU8 m.payload 0) with
  | none => s.refuse m .range
  | some l =>
    if s.lanes[l].nodeCount = 0 ∨ s.lanes[l].state ≠ .disabled ∨ s.engine.outstanding l = true then s.refuse m .state
    else (s.enableLane l).ok m (u8 s.enteredState.code)

def execLaneEnable (s : State) : Host.Outcome State Fault Refusal :=
  .next (s.dispatch kindLaneEnable (lenIs 1) false cmdLaneEnable)

/-! ### LANE_DISABLE (R138) -/

/-- The lane enters STOPPING, and with DARK its dark frame begins or is owed. -/
def State.stopLane (s : State) (l : LaneId) (dark : Bool) : State :=
  let t := s.setLane l { s.lanes[l].closeFeed with state := .stopping }
  if dark then t.darkNowOrNext l else t

def cmdLaneDisable (m : LinkMsg) (s : State) : State :=
  match parseLaneDisable m.payload with
  | none => s.refuse m .range
  | some (l, dark) =>
    if s.lanes[l].state = .disabled then s.ok m []
    else ((s.stopLane l dark).hold (.laneDisable m l)).stopIfDone l

def execLaneDisable (s : State) : Host.Outcome State Fault Refusal :=
  .next (s.dispatch kindLaneDisable (lenIs 2) false cmdLaneDisable)

/-! ### LANE_READ (R152) -/

/-- NONE, QUEUED, IN_PROGRESS. -/
def Engine.jobStatus (e : Engine) (l : LaneId) : Nat :=
  if e.job.any fun j => decide (j.lane = l) then 2 else if e.queue.any fun r => decide (r.lane = l) then 1 else 0

def State.laneFields (s : State) (l : LaneId) : List Byte :=
  let x := s.lanes[l]
  u8 x.state.code ++ u8 x.nodeCount ++ u8 x.bitRate.code ++ u8 x.timing.code ++ u8 x.latency.code ++ u16 x.soloPeriod ++
    u16 s.clocks.groupPeriod ++ u16 x.frameTime ++ u8 (s.engine.jobStatus l) ++ flag x.backReady ++
    flag x.sentSinceEnable ++ u32 x.scale ++ u16 x.budget ++ u16 x.derate ++ u16 x.underruns ++ flag x.armed ++
    (if x.nodeCount = 0 then [] else u8 x.poll) ++ counted rangeBytes x.holdSet

def Lane.afterRead (x : Lane) (clear : Bool) : Lane :=
  { x with armed := true, underruns := if clear then 0 else x.underruns }

def cmdLaneRead (m : LinkMsg) (s : State) : State :=
  match parseLaneRead m.payload with
  | none => s.refuse m .range
  | some (l, clear) => (s.setLane l (s.lanes[l].afterRead clear)).ok m (s.laneFields l)

def execLaneRead (s : State) : Host.Outcome State Fault Refusal :=
  .next (s.dispatch kindLaneRead (lenIs 2) true cmdLaneRead)

/-! ### NODE_HOLD (R145) -/

def rangeOk (n : Nat) (r : Range) : Bool := decide (1 ≤ r.count ∧ r.first + r.count ≤ n)

/-- How many distinct positions of a lane the ranges cover. -/
def heldCount (ranges : List Range) (n : Nat) : Nat := (List.range n).countP fun p => heldIn ranges p

def cmdNodeHold (m : LinkMsg) (s : State) : State :=
  match parseNodeHold m.payload with
  | none => s.refuse m .range
  | some (l, ranges) =>
    if ranges.all (rangeOk s.lanes[l].nodeCount) then
      (s.setLane l { s.lanes[l] with holdSet := ranges }).ok m (u8 (heldCount ranges s.lanes[l].nodeCount))
    else s.refuse m .range

def execNodeHold (s : State) : Host.Outcome State Fault Refusal :=
  .next (s.dispatch kindNodeHold lenNodeHold false cmdNodeHold)

/-! ### NODE_FAULTS_READ (R147) -/

def Lane.clearFaults (x : Lane) : Lane := { x with faults := List.replicate x.nodeCount 0 }

def cmdNodeFaultsRead (m : LinkMsg) (s : State) : State :=
  match idOf 4 (fieldU8 m.payload 0) with
  | none => s.refuse m .range
  | some l =>
    (s.setLane l s.lanes[l].clearFaults).ok m (u8 s.lanes[l].nodeCount ++ s.lanes[l].faults.map flagsByte)

def execNodeFaultsRead (s : State) : Host.Outcome State Fault Refusal :=
  .next (s.dispatch kindNodeFaultsRead (lenIs 1) true cmdNodeFaultsRead)

/-! ### GROUP_PERIOD (R133) -/

/-- Every GROUPED and ON_DEMAND lane fits the period. -/
def State.allFit (s : State) (period : Nat) : Bool :=
  (List.finRange 4).all fun l => decide (s.lanes[l].timing = .solo) || s.lanes[l].fits period

def cmdGroupPeriod (m : LinkMsg) (s : State) : State :=
  let period := fieldU16 m.payload 0
  if !periodOk period then s.refuse m .range
  else if s.allFit period then (s.setClocks { s.clocks with groupPeriod := period }).ok m []
  else s.refuse m .timing

def execGroupPeriod (s : State) : Host.Outcome State Fault Refusal :=
  .next (s.dispatch kindGroupPeriod (lenIs 2) false cmdGroupPeriod)

/-! ### BUDGET_SET (R164) -/

def cmdBudgetSet (m : LinkMsg) (s : State) : State :=
  match parseBudgetSet m.payload with
  | none => s.refuse m .range
  | some (l, budget, derate) => (s.setLane l { s.lanes[l] with budget := budget, derate := derate }).ok m []

def execBudgetSet (s : State) : Host.Outcome State Fault Refusal :=
  .next (s.dispatch kindBudgetSet (lenIs 5) false cmdBudgetSet)

/-! ### GROUP_TICK and SOLO_TICK (R132, R134) -/

/-- The lanes that a group tick reaches, in ascending number (R135). -/
def State.tickGroup (s : State) : State :=
  (List.finRange 4).foldl (fun t l => if t.lanes[l].timing = .solo then t else t.tickLane l) s

def State.groupClock (s : State) : State :=
  let t := s.clockTo s.clocks.groupDue
  t.setClocks { t.clocks with groupDue := s.clocks.groupDue + s.clocks.groupPeriod }

def execGroupTick (s : State) : Host.Outcome State Fault Refusal := .next s.groupClock.tickGroup.standbyCheck

/-- The solo tick of a lane that has one; otherwise nothing is due (log 1). -/
def State.tickSolo (s : State) (l : LaneId) : State :=
  match s.lanes[l].soloDue with
  | none => s
  | some due =>
    let t := s.clockTo due
    ((t.setLane l { t.lanes[l] with soloDue := some (due + t.lanes[l].soloPeriod) }).tickLane l).standbyCheck

def execSoloTick (l : LaneId) (s : State) : Host.Outcome State Fault Refusal := .next (s.tickSolo l)

/-! ### DIRECT_SLOT_DUE, RETURN_WINDOW_END, LANE_DISABLE_COMPLETE (R138, R142, R146) -/

/-- The next slot of a frame in flight begins; with no slot left nothing is due (log 1). -/
def State.slotDue (s : State) (l : LaneId) : State :=
  match s.lanes[l].frame with
  | none => s
  | some f =>
    if f.nextSlot < s.lanes[l].nodeCount then (s.clockTo (s.lanes[l].slotStart f f.nextSlot)).sendSlot l else s

def execDirectSlotDue (l : LaneId) (s : State) : Host.Outcome State Fault Refusal := .next (s.slotDue l)

/-- With no frame in flight no return window ends (log 1). -/
def State.windowEnd (s : State) (l : LaneId) (answer : BitVec 24) : State :=
  match s.lanes[l].frame with
  | none => s
  | some f => (s.endFrame l f answer).standbyCheck

def execReturnWindowEnd (l : LaneId) (answer : BitVec 24) (s : State) : Host.Outcome State Fault Refusal :=
  .next (s.windowEnd l answer)

/-- The end of the last frame of a STOPPING lane (log 24). -/
def execLaneDisableComplete (l : LaneId) (answer : BitVec 24) (s : State) : Host.Outcome State Fault Refusal :=
  .next
    (if s.lanes[l].state = .stopping then
      match s.lanes[l].frame with
      | none => s.stopIfDone l
      | some f => if s.lanes[l].darkOwed && !s.sagging then s else s.endFrame l f answer
    else s)

/-! ### NODE_COMPOSE, COMPOSE_JOB_COMPLETE and the held writes (R68, R121, R136) -/

/-- With no node left to compose nothing happens (log 1). -/
def execNodeCompose (s : State) : Host.Outcome State Fault Refusal :=
  .next
    (match s.engine.job with
     | none => s
     | some j => if j.duties.length < j.nodeCount then s.composeNode j else s)

/-- The completion of the job in progress, when its last node is composed. -/
def State.jobEnd (s : State) : State :=
  match s.engine.finished with
  | none => s
  | some j => s.completeJob j

def execComposeJobComplete (s : State) : Host.Outcome State Fault Refusal := .next s.jobEnd

def State.holdsKeys (s : State) : Bool :=
  match s.link.inDispatch with
  | some (.heldKeys _) => true
  | _ => false

def State.holdsSet (s : State) : Bool :=
  match s.link.inDispatch with
  | some (.heldSet _) => true
  | _ => false

/-- The completion of a job that holds a KEYS_WRITE (log 24). -/
def execKeysWriteHeldApply (s : State) : Host.Outcome State Fault Refusal := .next (if s.holdsKeys then s.jobEnd else s)

/-- The completion of a job that holds a CAL_WRITE or a CAL_RESTORE (log 24). -/
def execWorkingSetHeldApply (s : State) : Host.Outcome State Fault Refusal := .next (if s.holdsSet then s.jobEnd else s)

end Sys2Proof.Machine
end

