-- ==== Sys2Proof/Machine/Sense.lean ====
section
/-! DEFINITION. The sense monitor (09): conversions, the thermal, supply and band machines, and their commands. -/

namespace Sys2Proof.Machine

/-- The supply voltage of a code, in mV (R153). -/
def millivolts (code : BitVec 12) : Nat := code.toNat * 20000 / 4095

/-! ### Thermal machines (R155 to R158) -/

/-- The counts after a sample of `t` °C (R155). -/
def ThermalRec.counted (x : ThermalRec) (t : Int) : ThermalRec :=
  { x with
    hot := persist x.hot (decide (x.cutoffAt ≤ t))
    warm := persist x.warm (decide (x.derateAt ≤ t))
    cool := persist x.cool (decide (t < x.resumeBelow)) }

/-- The state that the counts give: the first row of R157 that applies. -/
def ThermalRec.nextState (x : ThermalRec) : ThermalState :=
  match x.state with
  | .normal => if x.persistence ≤ x.hot then .cutoff else if x.persistence ≤ x.warm then .derate else .normal
  | .derate => if x.persistence ≤ x.hot then .cutoff else if x.persistence ≤ x.cool then .normal else .derate
  | .cutoff => if x.persistence ≤ x.cool then .normal else .cutoff

/-- A machine that changes state starts every count again. -/
def ThermalRec.settle (x : ThermalRec) : ThermalRec :=
  if x.nextState = x.state then x else { x with state := x.nextState, hot := 0, warm := 0, cool := 0 }

def ThermalRec.sample (x : ThermalRec) (t : Int) : ThermalRec := (x.counted t).settle

/-! ### The supply machine (R159) -/

def SupplyRec.counted (x : SupplyRec) (v : Nat) : SupplyRec :=
  { x with
    low := persist x.low (decide (v < x.sagBelow))
    inside := persist x.inside (decide (x.sagBelow ≤ v ∧ v ≤ x.highAbove))
    high := persist x.high (decide (x.highAbove < v)) }

def SupplyRec.nextState (x : SupplyRec) : SupplyState :=
  match x.state with
  | .normal => if x.persistence ≤ x.low then .sag else if x.persistence ≤ x.high then .high else .normal
  | .sag => if x.persistence ≤ x.high then .high else if x.persistence ≤ x.inside then .normal else .sag
  | .high => if x.persistence ≤ x.low then .sag else if x.persistence ≤ x.inside then .normal else .high

def SupplyRec.settle (x : SupplyRec) : SupplyRec :=
  if x.nextState = x.state then x else { x with state := x.nextState, low := 0, inside := 0, high := 0 }

def SupplyRec.sample (x : SupplyRec) (v : Nat) : SupplyRec := (x.counted v).settle

/-! ### The band machine (R161) -/

/-- The band that an AMB code indicates. -/
def BandRec.indicated (x : BandRec) (code : Nat) : BandName :=
  if x.duskBelow ≤ code then .day else if x.nightBelow ≤ code then .dusk else .night

/-- The candidate and its count after a sample. -/
def BandRec.counted (x : BandRec) (code : Nat) : BandRec :=
  let b := x.indicated code
  if b = x.band then { x with candidate := none, count := 0 }
  else if x.candidate = some b then { x with count := min 15 (x.count + 1) }
  else { x with candidate := some b, count := 1 }

def BandRec.settle (x : BandRec) : BandRec :=
  match x.candidate with
  | none => x
  | some b => if x.persistence ≤ x.count then { x with band := b, candidate := none, count := 0 } else x

def BandRec.sample (x : BandRec) (code : Nat) : BandRec := (x.counted code).settle

/-! ### One sample of a channel (R153, R154) -/

def State.setCode (s : State) (c : ChannelId) (code : BitVec 12) : State :=
  s.setSense { s.sense with codes := s.sense.codes.put c (some code) }

def thermalFields (l : LaneId) (x y : ThermalState) (t : Int) : List Byte :=
  u8 l.val ++ u8 x.code ++ u8 y.code ++ s8 t

/-- A sample of a lane's thermistor. -/
def State.sampleThermal (s : State) (l : LaneId) (code : BitVec 12) : State :=
  let x := s.sense.thermal[l]
  let y := x.sample (tempOf code)
  let t := s.setCode (laneChannel l) code
  let u := t.setSense { t.sense with thermal := t.sense.thermal.put l y }
  if y.state = x.state then u else u.post .thermalState (thermalFields l x.state y.state (tempOf code))

/-- A sample of the ambient sensor: on the entry to a band its trigger source and its notice, in either order (R162). -/
def State.sampleAmbient (s : State) (code : BitVec 12) (ch : Choices) : State :=
  let x := s.sense.band
  let y := x.sample code.toNat
  let t := s.setCode 4 code
  let u := t.setSense { t.sense with band := y }
  let fields := u8 x.band.code ++ u8 y.band.code ++ u16 code.toNat
  if y.band = x.band then u
  else if ch.triggerFirst then (u.applyEvent (sourceBand y.band)).post .band fields
  else (u.post .band fields).applyEvent (sourceBand y.band)

/-- A sample of the supply: when the state leaves SAG every PAUSED lane resumes at that moment (R149, R160). -/
def State.sampleSupply (s : State) (code : BitVec 12) (ch : Choices) : State :=
  let x := s.sense.supply
  let y := x.sample (millivolts code)
  let t := s.setCode 5 code
  let u := t.setSense { t.sense with supply := y }
  if y.state = x.state then u
  else
    let v := u.post .supplyState (u8 x.state.code ++ u8 y.state.code ++ u16 (millivolts code))
    if x.state = .sag then v.resumeWhere ch.lanesFirst (· = .paused) else v

/-- The sample of one channel, judged by its own machine. -/
def State.sampleChannel (s : State) (c : ChannelId) (code : BitVec 12) (ch : Choices) : State :=
  if h : c.val < 4 then s.sampleThermal ⟨c.val, h⟩ code
  else if c.val = 4 then s.sampleAmbient code ch
  else s.sampleSupply code ch

/-! ### MONITOR_SET (R163) -/

def ThermalRec.configure (x : ThermalRec) (derateAt cutoffAt resumeBelow : Int) (p : Nat) : ThermalRec :=
  { x with
    derateAt := derateAt
    cutoffAt := cutoffAt
    resumeBelow := resumeBelow
    persistence := p
    hot := 0
    warm := 0
    cool := 0 }

def SupplyRec.configure (x : SupplyRec) (sagBelow highAbove p : Nat) : SupplyRec :=
  { x with sagBelow := sagBelow, highAbove := highAbove, persistence := p, low := 0, inside := 0, high := 0 }

def BandRec.configure (x : BandRec) (duskBelow nightBelow p : Nat) : BandRec :=
  { x with duskBelow := duskBelow, nightBelow := nightBelow, persistence := p, candidate := none, count := 0 }

/-- The machine takes its settings, starts its counts again, and keeps its state. -/
def SenseMonitor.configure (x : SenseMonitor) : MonitorArgs → SenseMonitor
  | .thermal l d c r p => { x with thermal := x.thermal.put l (x.thermal[l].configure d c r p) }
  | .supply lo hi p => { x with supply := x.supply.configure lo hi p }
  | .band d n p => { x with band := x.band.configure d n p }

def cmdMonitorSet (m : LinkMsg) (s : State) : State :=
  match parseMonitorSet m.payload with
  | none => s.refuse m .range
  | some a => (s.setSense (s.sense.configure a)).ok m []

def execMonitorSet (s : State) : Host.Outcome State Fault Refusal :=
  .next (s.dispatch kindMonitorSet lenMonitorSet false cmdMonitorSet)

/-! ### SENSE_READ (R166) -/

def codeField (c : BitVec 12) : List Byte := u16 c.toNat

/-- TH0 to TH3 always have a converted value; AMB and SUP have one with their code. -/
def SenseMonitor.channelFields (x : SenseMonitor) : List Byte :=
  (List.finRange 4).flatMap (fun l =>
      optional codeField x.codes[laneChannel l] ++ s8 (x.codes[laneChannel l].elim 25 tempOf)) ++
    optional (fun c => codeField c ++ u16 c.toNat) x.codes[(4 : ChannelId)] ++
    optional (fun c => codeField c ++ u16 (millivolts c)) x.codes[(5 : ChannelId)]

def ThermalRec.fields (x : ThermalRec) : List Byte :=
  u8 x.state.code ++ s8 x.derateAt ++ s8 x.cutoffAt ++ s8 x.resumeBelow ++ u8 x.persistence ++ u8 x.hot ++ u8 x.warm ++
    u8 x.cool

def SupplyRec.fields (x : SupplyRec) : List Byte :=
  u8 x.state.code ++ u16 x.sagBelow ++ u16 x.highAbove ++ u8 x.persistence ++ u8 x.low ++ u8 x.inside ++ u8 x.high

def BandRec.fields (x : BandRec) : List Byte :=
  u8 x.band.code ++ optional (fun b : BandName => u8 b.code) x.candidate ++ u8 x.count ++ u16 x.duskBelow ++
    u16 x.nightBelow ++ u8 x.persistence

def SenseMonitor.fields (x : SenseMonitor) : List Byte :=
  x.channelFields ++ (List.finRange 4).flatMap (fun l => x.thermal[l].fields) ++ x.supply.fields ++ x.band.fields ++
    u8 x.phase

def cmdSenseRead (m : LinkMsg) (s : State) : State := s.ok m s.sense.fields

def execSenseRead (s : State) : Host.Outcome State Fault Refusal :=
  .next (s.dispatch kindSenseRead (lenIs 0) true cmdSenseRead)

end Sys2Proof.Machine
end

