-- ==== Sys2Proof/Machine/Tick.lean ====
section
/-! DEFINITION. The device tick (00 Terms) and the steps that take one of its parts: fades, players, input lines, the thumbwheel,
the sense channels and the waking count. A step that names an outcome of a part takes that part ahead of the rest of the
tick, when the part has that outcome (log 4). -/

namespace Sys2Proof.Machine

/-! ### The parts of a device tick -/

/-- Whether the device tick moves players and fades: in ACTIVE and WAKING (R45, R85). -/
def State.moving (s : State) : Bool := decide (s.power.state = .active) || decide (s.power.state = .waking)

/-- A layer's fade (R43, R45). -/
def State.tickFade (s : State) (l : LayerId) : State :=
  if s.moving then s.setLayer l (s.layers[l].map LayerRec.tick) else s

/-- A player's end reaches the trigger unit and the link, in either order; a take at the end comes before its bindings act
(R83, R95; log 34). -/
def State.postEnd (s : State) (p : PlayerId) (r : PlayerTick) (ch : Choices) : State :=
  if r.ended then
    if ch.triggerFirst && r.late.isEmpty then (s.applyEvent (sourcePlayerEnd p)).postAll r.endNotice
    else ((s.postAll r.endNotice).postAll r.late).applyEvent (sourcePlayerEnd p)
  else s

/-- A player's tick (R80, R85). -/
def State.tickPlayer (s : State) (p : PlayerId) (ch : Choices) : State :=
  if s.moving then
    let r := s.players[p].tick p s.pattern
    ((s.setPlayer p r.player).postAll r.early).postEnd p r ch
  else s

/-- Not in STANDBY: the sense monitor samples, and the wheel is sampled (R105, R167). -/
def State.awake (s : State) : Bool := decide (s.power.state ≠ .standby)

/-- Whether the coming device tick is a sense tick whose channels may still be sampled one by one. -/
def State.senseDue (s : State) : Bool :=
  s.awake && decide (s.sense.phase = 9) && decide (TickPart.sense ∉ s.clocks.taken)

/-- A part of the tick is taken, unless it has been. -/
def State.takePart (s : State) (part : TickPart) (f : State → State) : State :=
  if part ∈ s.clocks.taken then s else f (s.setClocks { s.clocks with taken := part :: s.clocks.taken })

/-- One channel's sample at a sense tick. -/
def State.partChannel (s : State) (c : ChannelId) (codes : Tab (BitVec 12) 6) (ch : Choices) : State :=
  if s.awake && decide (s.sense.phase = 9) then s.sampleChannel c codes[c] ch else s

/-- The channels not yet sampled at this sense tick, in ascending number. -/
def State.sampleRest (s : State) (codes : Tab (BitVec 12) 6) (ch : Choices) : State :=
  (List.finRange 6).foldl (fun t c => t.takePart (.channel c) fun u => u.partChannel c codes ch) s

/-- The step of the sense phase; when it passes 9 all channels have been sampled (R153). -/
def State.partSense (s : State) (codes : Tab (BitVec 12) 6) (ch : Choices) : State :=
  if s.awake then
    if s.sense.phase = 9 then
      let t := s.sampleRest codes ch
      t.setSense { t.sense with phase := 0 }
    else s.setSense { s.sense with phase := s.sense.phase + 1 }
  else s

/-- The waking count; at 20 the part enters ACTIVE (R187). -/
def State.partWaking (s : State) (ch : Choices) : State :=
  if s.power.state = .waking then
    let t := s.setPower { s.power with count := s.power.count + 1 }
    if t.power.count = 20 then t.enterActive ch else t
  else s

/-- Whether the coming device tick is the twentieth of WAKING. -/
def State.wakingEnds (s : State) : Bool := decide (s.power.state = .waking) && decide (s.power.count + 1 = 20)

/-- Whether the coming device tick still has a channel to sample. -/
def State.samplesDue (s : State) : Bool :=
  s.senseDue && (List.finRange 6).any fun c => decide (TickPart.channel c ∉ s.clocks.taken)

/-- The samples of the twentieth tick of WAKING come before the entry to ACTIVE, since they fall within WAKING (R167, log 38). -/
def State.sampleFirst (s : State) (codes : Tab (BitVec 12) 6) (ch : Choices) : State :=
  if s.wakingEnds && s.samplesDue then s.takePart .sense fun t => t.partSense codes ch else s

/-- The choices of the parts that an order does not name. -/
def Choices.default : Choices := ⟨false, [], false⟩

/-- The choices that an order gives a part. -/
def choicesOf (order : List (TickPart × Choices)) (part : TickPart) : Choices := (order.lookup part).getD Choices.default

/-- What one part of the tick does. A channel is no part of a tick that is not a sense tick (R153). -/
def State.runPart (inp : TickInput) (part : TickPart) (ch : Choices) (s : State) : State :=
  match part with
  | .fade l => s.takePart part fun t => t.tickFade l
  | .player p => s.takePart part fun t => t.tickPlayer p ch
  | .line i => s.takePart part fun t => t.sampleLine i (inp.lines.getLsbD i.val)
  | .wheel => s.takePart part fun t => t.sampleWheel inp.wheel
  | .channel c => if s.senseDue then s.takePart part fun t => t.partChannel c inp.codes ch else s
  | .sense => s.takePart part fun t => t.partSense inp.codes ch
  | .waking => (s.sampleFirst inp.codes (choicesOf inp.order .sense)).takePart part fun t => t.partWaking ch

/-- The order in which the parts that an order does not name are taken (log 4). -/
def restOfTick : List TickPart := besidesLines ++ (List.finRange 8).map .line

/-- The moment of the coming device tick has come. -/
def State.atTick (s : State) : State := s.clockTo s.clocks.deviceDue

/-- The tick is over: the next one comes 1 ms later, with no part of it taken. -/
def State.tickOver (s : State) : State :=
  s.setClocks { s.clocks with deviceDue := s.clocks.deviceDue + 1000, taken := [] }

def State.runOrder (s : State) (inp : TickInput) (order : List (TickPart × Choices)) : State :=
  order.foldl (fun t x => t.runPart inp x.1 x.2) s

def State.runRest (s : State) (inp : TickInput) : State :=
  restOfTick.foldl (fun t part => t.runPart inp part Choices.default) s

/-- The whole tick. The entry to STANDBY is judged when it is over, since a sense tick once begun is finished first (log 38). -/
def execDeviceTick (inp : TickInput) (s : State) : Host.Outcome State Fault Refusal :=
  .next ((s.atTick.runOrder inp inp.order).runRest inp).tickOver.standbyCheck

/-! ### The steps that take one part ahead -/

/-- One part of the coming tick, when it is not yet taken and has the outcome. -/
def State.ahead (s : State) (part : TickPart) (due : Bool) (f : State → State) : State :=
  if due then s.atTick.takePart part f else s

/-- Whether the coming tick ends the layer's fade. -/
def State.fadeEnds (s : State) (l : LayerId) : Bool :=
  s.moving && s.layers[l].any fun x => decide (x.tick.state ≠ x.state)

def execFadeEnd (l : LayerId) (s : State) : Host.Outcome State Fault Refusal :=
  .next (s.ahead (.fade l) (s.fadeEnds l) fun t => t.tickFade l)

/-- What the coming tick does to a player. -/
def State.coming (s : State) (p : PlayerId) : PlayerTick :=
  if s.moving then s.players[p].tick p s.pattern else PlayerTick.plain s.players[p]

def execHoldPointReached (p : PlayerId) (s : State) : Host.Outcome State Fault Refusal :=
  .next (s.ahead (.player p) (s.coming p).paused fun t => t.tickPlayer p Choices.default)

def execWindowExpiry (p : PlayerId) (s : State) : Host.Outcome State Fault Refusal :=
  .next (s.ahead (.player p) (s.coming p).expired fun t => t.tickPlayer p Choices.default)

def execWrap (p : PlayerId) (s : State) : Host.Outcome State Fault Refusal :=
  .next (s.ahead (.player p) (s.coming p).wrapped fun t => t.tickPlayer p Choices.default)

def execTailEntry (p : PlayerId) (ch : Choices) (s : State) : Host.Outcome State Fault Refusal :=
  .next (s.ahead (.player p) (s.coming p).tailEntered fun t => t.tickPlayer p ch)

def execTailRunOut (p : PlayerId) (ch : Choices) (s : State) : Host.Outcome State Fault Refusal :=
  .next (s.ahead (.player p) (s.coming p).ended fun t => t.tickPlayer p ch)

/-- The sample that makes an edge on the line, when the coming one can: the level opposite to the filtered one. -/
def LineRec.edgeSample (x : LineRec) : Option Bool :=
  match x.level with
  | none => none
  | some v => if x.changes + 1 < x.filter then none else some !v

def execLineEdge (i : LineId) (s : State) : Host.Outcome State Fault Refusal :=
  .next
    (match s.lines[i].edgeSample with
     | none => s
     | some level => s.ahead (.line i) true fun t => t.sampleLine i level)

/-- Whether a sample of this pair makes a detent. -/
def State.detentDue (s : State) (pair : BitVec 2) : Bool := s.awake && (s.wheel.sample pair).2.isSome

def execDetent (pair : BitVec 2) (s : State) : Host.Outcome State Fault Refusal :=
  .next (s.ahead .wheel (s.detentDue pair) fun t => t.sampleWheel pair)

/-- Whether the coming device tick is a sense tick. -/
def State.senseTickDue (s : State) : Bool := s.awake && decide (s.sense.phase = 9)

def execSenseTick (codes : Tab (BitVec 12) 6) (ch : Choices) (s : State) : Host.Outcome State Fault Refusal :=
  .next (s.ahead .sense s.senseTickDue fun t => t.partSense codes ch)

/-- Whether a sample of this code changes the lane's thermal state. -/
def State.thermalChanges (s : State) (l : LaneId) (code : BitVec 12) : Bool :=
  s.senseDue && decide ((s.sense.thermal[l].sample (tempOf code)).state ≠ s.sense.thermal[l].state)

def execThermalStateChange (l : LaneId) (code : BitVec 12) (s : State) : Host.Outcome State Fault Refusal :=
  .next (s.ahead (.channel (laneChannel l)) (s.thermalChanges l code) fun t => t.sampleThermal l code)

/-- Whether a sample of this code changes the supply state. -/
def State.supplyChanges (s : State) (code : BitVec 12) : Bool :=
  s.senseDue && decide ((s.sense.supply.sample (millivolts code)).state ≠ s.sense.supply.state)

def execSupplyStateChange (code : BitVec 12) (ch : Choices) (s : State) : Host.Outcome State Fault Refusal :=
  .next (s.ahead (.channel 5) (s.supplyChanges code) fun t => t.sampleSupply code ch)

/-- Whether a sample of this code brings the band into a new band. -/
def State.bandChanges (s : State) (code : BitVec 12) : Bool :=
  s.senseDue && decide ((s.sense.band.sample code.toNat).band ≠ s.sense.band.band)

def execBandEntry (code : BitVec 12) (ch : Choices) (s : State) : Host.Outcome State Fault Refusal :=
  .next (s.ahead (.channel 4) (s.bandChanges code) fun t => t.sampleAmbient code ch)

/-- The entry to ACTIVE, when no sample of its tick is still due (R167). -/
def execWakingComplete (ch : Choices) (s : State) : Host.Outcome State Fault Refusal :=
  .next (s.ahead .waking (s.wakingEnds && !s.samplesDue) fun t => t.partWaking ch)

end Sys2Proof.Machine
end

