-- ==== Sys2Proof/Machine/Zones.lean ====
section
/-! DEFINITION. The zone table (01): defining, clearing and reading zones. -/

namespace Sys2Proof.Machine

/-! ### ZONE_DEFINE (R10, R11) -/

/-- Two runs share a position. -/
def runsMeet (f n g m : Nat) : Bool := decide (f < g + m ∧ g < f + n)

/-- Another DEFINED zone on the lane shares a position with the run. -/
def State.overlaps (s : State) (z : ZoneId) (lane : LaneId) (first count : Nat) : Bool :=
  (List.finRange 16).any fun y =>
    decide (y ≠ z) && s.zones[y].defined && decide (s.zones[y].lane = lane) &&
      runsMeet first count s.zones[y].first s.zones[y].count

/-- The run is the one that the zone holds now. -/
def ZoneRec.sameRun (x : ZoneRec) (a : ZoneDefineArgs) : Bool :=
  decide (x.lane = a.lane ∧ x.first = a.first ∧ x.count = a.count)

/-- Checks 2 to 4 of R10, in order. -/
def State.zoneStatus (s : State) (a : ZoneDefineArgs) : Status :=
  if s.lanes[a.lane].nodeCount < a.first + a.count then .range
  else if !s.zoneStacks[a.zone].isEmpty && !s.zones[a.zone].sameRun a then .inUse
  else if s.overlaps a.zone a.lane a.first a.count then .overlap
  else .ok

def ZoneDefineArgs.record (a : ZoneDefineArgs) : ZoneRec := ⟨true, a.lane, a.first, a.count, a.set, a.trim, a.policy⟩

def cmdZoneDefine (m : LinkMsg) (s : State) : State :=
  match parseZoneDefine m.payload with
  | none => s.refuse m .range
  | some a =>
    match s.zoneStatus a with
    | .ok => (s.setZone a.zone a.record).ok m []
    | status => s.refuse m status

def execZoneDefine (s : State) : Host.Outcome State Fault Refusal :=
  .next (s.dispatch kindZoneDefine (lenIs 7) false cmdZoneDefine)

/-! ### ZONE_CLEAR (R13) -/

def cmdZoneClear (m : LinkMsg) (s : State) : State :=
  match idOf 16 (fieldU8 m.payload 0) with
  | none => s.refuse m .range
  | some z =>
    if s.zoneStacks[z].isEmpty then
      (if s.zones[z].defined then s.setZone z ZoneRec.undefined else s).ok m []
    else s.refuse m .inUse

def execZoneClear (s : State) : Host.Outcome State Fault Refusal :=
  .next (s.dispatch kindZoneClear (lenIs 1) false cmdZoneClear)

/-! ### ZONE_READ (R14) -/

def State.zoneFields (s : State) (z : ZoneId) : List Byte :=
  let x := s.zones[z]
  if x.defined then
    u8 1 ++ u8 x.lane.val ++ u8 x.first ++ u8 x.count ++ u8 x.set.val ++ u8 x.trim ++ u8 x.policy.code ++
      u8 s.zoneStacks[z].length
  else u8 0

def cmdZoneRead (m : LinkMsg) (s : State) : State :=
  match idOf 16 (fieldU8 m.payload 0) with
  | none => s.refuse m .range
  | some z => s.ok m (s.zoneFields z)

def execZoneRead (s : State) : Host.Outcome State Fault Refusal :=
  .next (s.dispatch kindZoneRead (lenIs 1) true cmdZoneRead)

end Sys2Proof.Machine
end

