-- ==== Sys2Proof/Machine/Dispatch.lean ====
section
/-! DEFINITION. What each command does to the part: one arm for each row of the table. -/

namespace Sys2Proof.Machine

def exec (i : Instr) (s : State) : Host.Outcome State Fault Refusal :=
  match i with
  | .powerOnReset => Sys2Proof.Machine.execPowerOnReset s
  | .messageReceived rx => Sys2Proof.Machine.execMessageReceived rx s
  | .receiveFault rx => Sys2Proof.Machine.execReceiveFault rx s
  | .interByteTimeout => Sys2Proof.Machine.execInterByteTimeout s
  | .dispatchBadKind => Sys2Proof.Machine.execDispatchBadKind s
  | .replyQueueJoin => Sys2Proof.Machine.execReplyQueueJoin s
  | .transmitGrant => Sys2Proof.Machine.execTransmitGrant s
  | .statusRead => Sys2Proof.Machine.execStatusRead s
  | .restart => Sys2Proof.Machine.execRestart s
  | .restartReset => Sys2Proof.Machine.execRestartReset s
  | .sleep => Sys2Proof.Machine.execSleep s
  | .standbyEntry => Sys2Proof.Machine.execStandbyEntry s
  | .wake => Sys2Proof.Machine.execWake s
  | .wakingComplete ch => Sys2Proof.Machine.execWakingComplete ch s
  | .noticeMask => Sys2Proof.Machine.execNoticeMask s
  | .laneSetup => Sys2Proof.Machine.execLaneSetup s
  | .laneEnable => Sys2Proof.Machine.execLaneEnable s
  | .laneDisable => Sys2Proof.Machine.execLaneDisable s
  | .laneDisableComplete l answer => Sys2Proof.Machine.execLaneDisableComplete l answer s
  | .laneRead => Sys2Proof.Machine.execLaneRead s
  | .nodeHold => Sys2Proof.Machine.execNodeHold s
  | .nodeFaultsRead => Sys2Proof.Machine.execNodeFaultsRead s
  | .groupPeriod => Sys2Proof.Machine.execGroupPeriod s
  | .zoneDefine => Sys2Proof.Machine.execZoneDefine s
  | .zoneClear => Sys2Proof.Machine.execZoneClear s
  | .zoneRead => Sys2Proof.Machine.execZoneRead s
  | .layerPlace => Sys2Proof.Machine.execLayerPlace s
  | .layerLift => Sys2Proof.Machine.execLayerLift s
  | .layerSet => Sys2Proof.Machine.execLayerSet s
  | .layerShow => Sys2Proof.Machine.execLayerShow s
  | .layerHide => Sys2Proof.Machine.execLayerHide s
  | .stackRead => Sys2Proof.Machine.execStackRead s
  | .trackCreate => Sys2Proof.Machine.execTrackCreate s
  | .keysWrite => Sys2Proof.Machine.execKeysWrite s
  | .keysWriteHeldApply => Sys2Proof.Machine.execKeysWriteHeldApply s
  | .keysRead => Sys2Proof.Machine.execKeysRead s
  | .trackFree => Sys2Proof.Machine.execTrackFree s
  | .memoryRead => Sys2Proof.Machine.execMemoryRead s
  | .storageUpset b k u => Sys2Proof.Machine.execStorageUpset b k u s
  | .playerSetup => Sys2Proof.Machine.execPlayerSetup s
  | .playerStart => Sys2Proof.Machine.execPlayerStart s
  | .playerArm => Sys2Proof.Machine.execPlayerArm s
  | .playerStop => Sys2Proof.Machine.execPlayerStop s
  | .playerRead => Sys2Proof.Machine.execPlayerRead s
  | .lineSetup => Sys2Proof.Machine.execLineSetup s
  | .bind => Sys2Proof.Machine.execBind s
  | .unbind => Sys2Proof.Machine.execUnbind s
  | .eventInject => Sys2Proof.Machine.execEventInject s
  | .inputsRead => Sys2Proof.Machine.execInputsRead s
  | .calWrite => Sys2Proof.Machine.execCalWrite s
  | .calRestore => Sys2Proof.Machine.execCalRestore s
  | .workingSetHeldApply => Sys2Proof.Machine.execWorkingSetHeldApply s
  | .calRead => Sys2Proof.Machine.execCalRead s
  | .curveWrite => Sys2Proof.Machine.execCurveWrite s
  | .dimmerSet => Sys2Proof.Machine.execDimmerSet s
  | .bandFactors => Sys2Proof.Machine.execBandFactors s
  | .budgetSet => Sys2Proof.Machine.execBudgetSet s
  | .monitorSet => Sys2Proof.Machine.execMonitorSet s
  | .senseRead => Sys2Proof.Machine.execSenseRead s
  | .deviceTick inp => Sys2Proof.Machine.execDeviceTick inp s
  | .fadeEnd l => Sys2Proof.Machine.execFadeEnd l s
  | .holdPointReached p => Sys2Proof.Machine.execHoldPointReached p s
  | .windowExpiry p => Sys2Proof.Machine.execWindowExpiry p s
  | .wrap p => Sys2Proof.Machine.execWrap p s
  | .tailEntry p ch => Sys2Proof.Machine.execTailEntry p ch s
  | .tailRunOut p ch => Sys2Proof.Machine.execTailRunOut p ch s
  | .lineEdge n => Sys2Proof.Machine.execLineEdge n s
  | .detent pair => Sys2Proof.Machine.execDetent pair s
  | .senseTick codes ch => Sys2Proof.Machine.execSenseTick codes ch s
  | .thermalStateChange l code => Sys2Proof.Machine.execThermalStateChange l code s
  | .supplyStateChange code ch => Sys2Proof.Machine.execSupplyStateChange code ch s
  | .bandEntry code ch => Sys2Proof.Machine.execBandEntry code ch s
  | .groupTick => Sys2Proof.Machine.execGroupTick s
  | .soloTick l => Sys2Proof.Machine.execSoloTick l s
  | .directSlotDue l => Sys2Proof.Machine.execDirectSlotDue l s
  | .returnWindowEnd l answer => Sys2Proof.Machine.execReturnWindowEnd l answer s
  | .nodeCompose => Sys2Proof.Machine.execNodeCompose s
  | .composeJobComplete => Sys2Proof.Machine.execComposeJobComplete s
  | .byteReceived b => Sys2Proof.Machine.execByteReceived b s

end Sys2Proof.Machine
end

