-- ==== Sys2Proof/Machine/Step.lean ====
section
/-! DEFINITION. One step of the part: the oldest waiting command is taken. -/

namespace Sys2Proof.Machine

/-- Put a command at the front of the queue of waiting commands. -/
def State.push (s : State) (c : Instr) : State := { s with pending := c :: s.pending }

/-- Take the command at the front of the queue; with none waiting the part idles (log 2). -/
def step (s : State) : Host.Outcome State Fault Refusal :=
  match s.pending with
  | [] => .next s
  | c :: rest => exec c { s with pending := rest }

/-- The state with the command that the word spells at the front of its queue (log 10: no word spells one). -/
def State.withFetchWord (s : State) (nbits w : Nat) : State :=
  match decodeTableWord nbits w with
  | none => s
  | some c => s.push c

end Sys2Proof.Machine
end

