-- ==== Sys2Proof/Safety.lean ====
section
/-! DEFINITION. The laws that the spec states of the part, as properties of a state, and the moments at which the time-driven
commands are due. -/

namespace Sys2Proof.Machine

/-! ### The laws of the part -/

/-- R172, R176, R177: the buffer holds at most 4 messages, the reply queue at most 8 and the notice queue at most 16. -/
abbrev LinkState.Bounded (k : LinkState) : Prop :=
  k.buffer.length ≤ 4 ∧ k.replies.length ≤ 8 ∧ k.notices.length ≤ 16

/-- The lanes that have a job queued or in progress, each as often as it has one. -/
def Engine.lanes (e : Engine) : List LaneId := e.queue.map Request.lane ++ (e.job.map Job.lane).toList

/-- R135: at most one compose job a lane is queued or in progress. -/
abbrev Engine.OneJobPerLane (e : Engine) : Prop := e.lanes.Nodup

/-- R135: a request waits only while a job is in progress. -/
abbrev Engine.Busy (e : Engine) : Prop := e.job = none → e.queue = []

/-- R9, first condition: two DEFINED zones on one lane share no position. -/
abbrev State.ZonesApart (s : State) : Prop :=
  ∀ y z : ZoneId, y ≠ z → s.zones[y].defined = true → s.zones[z].defined = true → s.zones[y].lane = s.zones[z].lane →
    runsMeet s.zones[y].first s.zones[y].count s.zones[z].first s.zones[z].count = false

/-- R9, second condition: every DEFINED zone lies within its lane. -/
abbrev State.ZonesWithin (s : State) : Prop :=
  ∀ z : ZoneId, s.zones[z].defined = true → s.zones[z].first + s.zones[z].count ≤ s.lanes[s.zones[z].lane].nodeCount

/-- R2: the node counts of the four lanes come to at most 256. -/
abbrev State.NodePool (s : State) : Prop :=
  s.lanes[(0 : LaneId)].nodeCount + s.lanes[(1 : LaneId)].nodeCount + s.lanes[(2 : LaneId)].nodeCount +
    s.lanes[(3 : LaneId)].nodeCount ≤ 256

/-- R2: the node count of a lane is at most 96. -/
abbrev State.ChainsBounded (s : State) : Prop := ∀ l : LaneId, s.lanes[l].nodeCount ≤ 96

/-- R41: a stack holds at most 6 layers. -/
abbrev State.StacksBounded (s : State) : Prop := ∀ z : ZoneId, s.zoneStacks[z].length ≤ 6

/-- R41: a stack holds no layer twice, and it holds exactly the placed layers whose record names its zone. -/
abbrev State.StacksOwned (s : State) : Prop :=
  ∀ z : ZoneId, s.zoneStacks[z].Nodup ∧ ∀ l : LayerId, l ∈ s.zoneStacks[z] ↔ (s.layers[l].map LayerRec.zone) = some z

/-- R41: a stack is ordered, bottom to top, by non-decreasing priority. -/
abbrev State.StacksOrdered (s : State) : Prop :=
  ∀ z : ZoneId, (s.zoneStacks[z].map s.priorityOf).Pairwise (· ≤ ·)

/-- R58: every placed layer names a DEFINED zone. -/
abbrev State.LayersOnZones (s : State) : Prop :=
  ∀ l : LayerId, ∀ x ∈ s.layers[l], s.zones[x.zone].defined = true

/-- R41 and R58 together. -/
abbrev State.StackLaws (s : State) : Prop := s.StacksOwned ∧ s.StacksBounded ∧ s.StacksOrdered ∧ s.LayersOnZones

/-- R42: the fade position of a placed layer by its state. -/
abbrev LayerRec.FadeOk (x : LayerRec) : Prop :=
  x.pos ≤ x.fadeTime ∧ (x.state = .parked → x.pos = 0) ∧ (x.state = .steady → x.pos = x.fadeTime)

/-- R42: every placed layer has the fade position that its state gives. -/
abbrev State.FadesOk (s : State) : Prop := ∀ l : LayerId, ∀ x ∈ s.layers[l], x.FadeOk

/-- R66: keyframe 0 has time 0, and keyframe times strictly increase. -/
abbrev PatternMemory.KeysInOrder (pm : PatternMemory) : Prop :=
  ∀ k : TrackId, ∀ t ∈ pm.tracks[k], t.times.length = t.count ∧ timesInOrder t.times = true

/-- The blocks that the tracks own, with those on the free-block list. -/
def PatternMemory.allBlocks (pm : PatternMemory) : List BlockId :=
  pm.free ++ (List.finRange 64).flatMap fun k => (pm.tracks[k].map Track.chain).getD []

/-- R62: each block is on the free-block list or in the chain of exactly one track. -/
abbrev PatternMemory.BlocksOwned (pm : PatternMemory) : Prop := ∀ b : BlockId, pm.allBlocks.count b = 1

/-- R62: a track of n keyframes owns exactly ceil(n / 16) blocks, and the free-block list ascends. -/
abbrev PatternMemory.ChainsFit (pm : PatternMemory) : Prop :=
  (∀ k : TrackId, ∀ t ∈ pm.tracks[k], t.chain.length = blocksFor t.count) ∧ pm.free.Pairwise (· < ·)

/-- R78: every player not in IDLE names a track that is not FREE. -/
abbrev State.PlayersOnTracks (s : State) : Prop :=
  ∀ p : PlayerId, s.players[p].state ≠ .idle → (s.pattern.trackOf s.players[p].settings).isSome = true

/-- R98: no track that a player names, in its settings or in its staged settings, is FREE; and staged settings name a track
(R91, R94). -/
abbrev State.NamedTracksHeld (s : State) : Prop :=
  ∀ p : PlayerId, (∀ k : TrackId, s.players[p].names k = true → (s.pattern.tracks[k]).isSome = true) ∧
    ∀ st ∈ s.players[p].staged, st.track.isSome = true

/-- R68: a KEYS_WRITE that is held has passed its checks. -/
abbrev State.HeldWriteChecked (s : State) : Prop :=
  ∀ m a, s.link.inDispatch = some (.heldKeys m) → parseKeysWrite m.payload = some a → s.keysWriteStatus a = .ok

/-- R62, R66, R68, R78 and R98 together. -/
abbrev State.PatternLaws (s : State) : Prop :=
  s.pattern.KeysInOrder ∧ s.pattern.BlocksOwned ∧ s.pattern.ChainsFit ∧ s.PlayersOnTracks ∧ s.NamedTracksHeld ∧
    s.HeldWriteChecked

/-- R115, R187: the pending list holds at most one wake event a line. -/
abbrev PowerCtl.OnePerLine (x : PowerCtl) : Prop := (x.events.map LineEvent.line).Nodup

/-- R130, R144, R33: what a lane's counts and factors may hold. -/
abbrev Lane.CountsOk (x : Lane) : Prop := x.underruns ≤ 65535 ∧ x.scale ≤ 65536

/-! ### What the statements speak of -/

/-- The part is ACTIVE with no command in dispatch, and the next message of the buffer is `m`, of this KIND and of a length that
its layout gives: the command is dispatched and its own rule judges it (R173, R174). -/
abbrev State.Takes (s : State) (kind : Byte) (len : List Byte → Bool) (m : LinkMsg) (rest : List LinkMsg) : Prop :=
  s.link.inDispatch = none ∧ s.power.state = .active ∧ s.link.buffer = m :: rest ∧ m.kind = kind ∧ len m.payload = true

/-- The same for the commands that are served while the part is WAKING as well (R174). -/
abbrev State.TakesRead (s : State) (kind : Byte) (len : List Byte → Bool) (m : LinkMsg) (rest : List LinkMsg) : Prop :=
  s.link.inDispatch = none ∧ (s.power.state = .active ∨ s.power.state = .waking) ∧ s.link.buffer = m :: rest ∧
    m.kind = kind ∧ len m.payload = true

/-- The link after a message has left the buffer and its reply has joined the reply queue, or waits for a place there and keeps the
command in dispatch (R173, R176). -/
def LinkState.answered (k : LinkState) (rest : List LinkMsg) (m : LinkMsg) (status : Status) (fields : List Byte) :
    LinkState :=
  if k.replies.length < 8 then
    { k with buffer := rest, inDispatch := none, replies := k.replies ++ [⟨m.tag, m.kind + 0x80, status.code :: fields⟩] }
  else { k with buffer := rest, inDispatch := some (.replyWaiting ⟨m.tag, m.kind + 0x80, status.code :: fields⟩) }

/-- Notices posted one after another. -/
def LinkState.posted (k : LinkState) (ns : List Notice) : LinkState := ns.foldl (fun k n => k.post n.kind n.fields) k

/-- One link command: the command, its KIND, the lengths that its layout gives, and whether it is served while the part is
WAKING (R174, 10.7). -/
structure LinkCommand where
  command : Instr
  kind : Byte
  length : List Byte → Bool
  waking : Bool

/-- The commands of the link, the power and the lanes. -/
def linkCommandsOfLanes : List LinkCommand :=
  [⟨.statusRead, kindStatusRead, lenIs 0, true⟩,
   ⟨.restart, kindRestart, lenIs 0, false⟩,
   ⟨.sleep, kindSleep, lenIs 1, false⟩,
   ⟨.wake, kindWake, lenIs 0, true⟩,
   ⟨.noticeMask, kindNoticeMask, lenIs 13, false⟩,
   ⟨.laneSetup, kindLaneSetup, lenIs 7, false⟩,
   ⟨.laneEnable, kindLaneEnable, lenIs 1, false⟩,
   ⟨.laneDisable, kindLaneDisable, lenIs 2, false⟩,
   ⟨.laneRead, kindLaneRead, lenIs 2, true⟩,
   ⟨.nodeHold, kindNodeHold, lenNodeHold, false⟩,
   ⟨.nodeFaultsRead, kindNodeFaultsRead, lenIs 1, true⟩,
   ⟨.groupPeriod, kindGroupPeriod, lenIs 2, false⟩]

/-- The commands of zones, layers and pattern memory. -/
def linkCommandsOfLayers : List LinkCommand :=
  [⟨.zoneDefine, kindZoneDefine, lenIs 7, false⟩,
   ⟨.zoneClear, kindZoneClear, lenIs 1, false⟩,
   ⟨.zoneRead, kindZoneRead, lenIs 1, true⟩,
   ⟨.layerPlace, kindLayerPlace, lenIs 27, false⟩,
   ⟨.layerLift, kindLayerLift, lenIs 1, false⟩,
   ⟨.layerSet, kindLayerSet, lenIs 21, false⟩,
   ⟨.layerShow, kindLayerShow, lenIs 1, false⟩,
   ⟨.layerHide, kindLayerHide, lenIs 1, false⟩,
   ⟨.stackRead, kindStackRead, lenIs 1, true⟩,
   ⟨.trackCreate, kindTrackCreate, lenIs 3, false⟩,
   ⟨.keysWrite, kindKeysWrite, lenKeysWrite, false⟩,
   ⟨.keysRead, kindKeysRead, lenIs 4, true⟩,
   ⟨.trackFree, kindTrackFree, lenIs 1, false⟩,
   ⟨.memoryRead, kindMemoryRead, lenMemoryRead, true⟩]

/-- The commands of players and triggers. -/
def linkCommandsOfPlayers : List LinkCommand :=
  [⟨.playerSetup, kindPlayerSetup, lenIs 17, false⟩,
   ⟨.playerStart, kindPlayerStart, lenIs 1, false⟩,
   ⟨.playerArm, kindPlayerArm, lenIs 1, false⟩,
   ⟨.playerStop, kindPlayerStop, lenIs 1, false⟩,
   ⟨.playerRead, kindPlayerRead, lenIs 1, true⟩,
   ⟨.lineSetup, kindLineSetup, lenIs 4, false⟩,
   ⟨.bind, kindBind, lenIs 5, false⟩,
   ⟨.unbind, kindUnbind, lenIs 1, false⟩,
   ⟨.eventInject, kindEventInject, lenIs 1, false⟩,
   ⟨.inputsRead, kindInputsRead, lenInputsRead, true⟩]

/-- The commands of calibration and the sense monitor. -/
def linkCommandsOfLevels : List LinkCommand :=
  [⟨.calWrite, kindCalWrite, lenIs 25, false⟩,
   ⟨.calRestore, kindCalRestore, lenIs 1, false⟩,
   ⟨.calRead, kindCalRead, lenCalRead, true⟩,
   ⟨.curveWrite, kindCurveWrite, lenCurveWrite, false⟩,
   ⟨.dimmerSet, kindDimmerSet, lenIs 1, false⟩,
   ⟨.bandFactors, kindBandFactors, lenIs 6, false⟩,
   ⟨.budgetSet, kindBudgetSet, lenIs 5, false⟩,
   ⟨.monitorSet, kindMonitorSet, lenMonitorSet, false⟩,
   ⟨.senseRead, kindSenseRead, lenIs 0, true⟩]

/-- The link commands. -/
def linkCommands : List LinkCommand :=
  linkCommandsOfLanes ++ linkCommandsOfLayers ++ linkCommandsOfPlayers ++ linkCommandsOfLevels

/-! ### When the time-driven commands are due (log 5) -/

/-- The moment at which a time-driven command is due, where the part is waiting for it. -/
def State.dueAt (s : State) : Instr → Option Nat
  | .interByteTimeout => s.link.parser.received.map fun _ => s.link.lastByteEnd + 2000
  | .transmitGrant => if s.link.hasTraffic then some (max s.clocks.now s.link.lineFree) else none
  | .restartReset => if s.link.drained then some (max s.clocks.now s.link.lineFree) else none
  | .deviceTick _ => some s.clocks.deviceDue
  | .groupTick => some s.clocks.groupDue
  | .soloTick l => s.lanes[l].soloDue
  | .directSlotDue l =>
    match s.lanes[l].frame with
    | none => none
    | some f =>
      if f.nextSlot < s.lanes[l].nodeCount then some (s.lanes[l].slotStart f f.nextSlot) else none
  | .returnWindowEnd l _ => s.lanes[l].frame.map s.lanes[l].frameEnd
  | .nodeCompose =>
    match s.engine.job with
    | none => none
    | some j => if j.duties.length < j.nodeCount then some (j.readyAt + j.nodeCost j.duties.length) else none
  | .composeJobComplete => s.engine.finished.map Job.readyAt
  | _ => none

end Sys2Proof.Machine
end

