-- ==== Sys2Proof/Certificates/Slice0/Obligations.lean ====
section
/-! DEFINITION. The statements for the provers. "Log n" is notes/assumptions/n.md. -/

open Sys2Proof Sys2Proof.Machine

/-! ### The step (the queue of waiting commands) -/

/-- O1. Log 2: on an empty queue the part idles. -/
def Obligations.StepTakesTheFrontCommand : Prop :=
  (∀ (s : State) (c : Instr) (rest : List Instr), s.pending = c :: rest →
      step s = exec c { s with pending := rest }) ∧
    ∀ s : State, s.pending = [] → step s = .next s

/-! ### Resets (11.5) -/

/-- O2. What R189 gives a power-on reset: every block's values, and RESTARTED with cause POWER_ON as the one notice. Log 6: the
wheel's mark that its next sample only sets the last pair is clear. -/
def Obligations.PowerOnResetValues : Prop :=
  (∀ z : ZoneId, State.reset.zones[z] = ⟨false, 0, 0, 0, 0, 255, .showAll⟩ ∧ State.reset.zoneStacks[z] = []) ∧
  (∀ l : LayerId, State.reset.layers[l] = none) ∧
  (∀ k : TrackId, State.reset.pattern.tracks[k] = none) ∧
  State.reset.pattern.free.map Fin.val = List.range 128 ∧
  (∀ p : PlayerId, State.reset.players[p] =
    ⟨⟨none, .once, 256, 0, 0, .ignore, none, 10000, false⟩, .idle, 0, false, none, none⟩) ∧
  (∀ i : LineId, State.reset.lines[i] = ⟨.off, 4, false, none, 0⟩) ∧
  State.reset.wheel = ⟨none, 0, none, false⟩ ∧
  (∀ b : BindingId, State.reset.bindings[b] = none) ∧
  (∀ n : SetId, State.reset.cal.working[n] = State.reset.cal.factory[n]) ∧
  (∀ i : Fin 64, State.reset.cal.curve[i] = 1023 * (i.val * i.val) / 3969) ∧
  State.reset.cal.wheelIndex = 32 ∧
  (State.reset.cal.factorDay, State.reset.cal.factorDusk, State.reset.cal.factorNight) = (256, 208, 144) ∧
  (∀ l : LaneId, State.reset.lanes[l].state = .disabled ∧ State.reset.lanes[l].nodeCount = 0 ∧
    State.reset.lanes[l].bitRate = .r800k ∧ State.reset.lanes[l].timing = .grouped ∧
    State.reset.lanes[l].latency = .buffered ∧ State.reset.lanes[l].soloPeriod = 10000 ∧
    State.reset.lanes[l].holdSet = [] ∧ State.reset.lanes[l].underruns = 0 ∧ State.reset.lanes[l].armed = true ∧
    State.reset.lanes[l].scale = 65536 ∧ State.reset.lanes[l].budget = 20000 ∧ State.reset.lanes[l].derate = 128 ∧
    State.reset.lanes[l].frame = none) ∧
  State.reset.engine = ⟨[], none⟩ ∧
  (∀ c : ChannelId, State.reset.sense.codes[c] = none) ∧
  (∀ l : LaneId, State.reset.sense.thermal[l] = ⟨85, 105, 75, 3, .normal, 0, 0, 0⟩) ∧
  State.reset.sense.supply = ⟨9000, 16500, 2, .normal, 0, 0, 0⟩ ∧
  State.reset.sense.band = ⟨1200, 300, 5, .day, none, 0⟩ ∧
  State.reset.power = ⟨.active, none, 0, []⟩ ∧
  State.reset.link.parser = .hunting ∧ State.reset.link.buffer = [] ∧ State.reset.link.inDispatch = none ∧
  State.reset.link.replies = [] ∧ State.reset.link.notices = [⟨.restarted, [0]⟩] ∧ State.reset.link.lost = false ∧
  State.reset.link.busyDrops = 0 ∧ (∀ k : Fin 13, State.reset.link.mask[k] = true) ∧
  State.reset.clocks.groupPeriod = 10000 ∧ State.reset.clocks.groupDue = State.reset.clocks.now + 10000

/-- O3. POWER_ON_RESET: the values of State.reset, with the part's own factory sets. Log 26: the clock starts again at 0. Logs 6
and 9 name the values that the spec does not give. -/
def Obligations.PowerOnResetCompletes : Prop :=
  ∀ s : State, exec .powerOnReset s =
    .next { State.reset with cal := CalStore.powerOn s.cal.factory, pending := s.pending }

/-- O4. RESTART_RESET: pattern memory, working sets, curve and wheel index stand as they stood; every other block takes its
power-on values, and RESTARTED has cause COMMAND (1). -/
def Obligations.RestartResetKeepsPatternAndCalibration : Prop :=
  ∀ s : State, s.link.inDispatch = some (.restart [] []) → s.link.replies = [] →
    ∃ t : State, exec .restartReset s = .next t ∧
      t.pattern = s.pattern ∧ t.cal.working = s.cal.working ∧ t.cal.factory = s.cal.factory ∧
      t.cal.curve = s.cal.curve ∧ t.cal.wheelIndex = s.cal.wheelIndex ∧
      (t.cal.factorDay, t.cal.factorDusk, t.cal.factorNight) = (256, 208, 144) ∧
      t.link = { State.reset.link with notices := [⟨.restarted, [1]⟩] } ∧
      t.zones = State.reset.zones ∧ t.layers = State.reset.layers ∧ t.zoneStacks = State.reset.zoneStacks ∧
      t.players = State.reset.players ∧ t.lines = State.reset.lines ∧ t.wheel = State.reset.wheel ∧
      t.bindings = State.reset.bindings ∧ t.lanes = State.reset.lanes ∧ t.engine = State.reset.engine ∧
      t.sense = State.reset.sense ∧ t.power = State.reset.power ∧ t.pending = s.pending ∧
      t.clocks.groupPeriod = 10000 ∧ t.clocks.groupDue = t.clocks.now + 10000 ∧
      ∀ x ∈ s.link.tx, x.endsAt ≤ t.clocks.now

/-! ### The receive parser (10.2, 10.3) -/

/-- O5. BYTE_RECEIVED in each parser state, but for the CHK byte of a good message: the next state of the table of R170, and
the LINK_FAULT of R171. A byte whose start bit comes more than 2 ms after the last byte ended finds TIMEOUT made, and is judged in
HUNTING. Log 35: the byte that makes the fault is counted, and at 2 ms exactly the order of the queue decides. -/
def Obligations.ByteReceivedMovesTheParser : Prop :=
  ∀ (s : State) (b : RxByte),
    let heard (p : Parser) : State :=
      { s with
        link := { s.link with parser := p, lastByteEnd := b.endsAt }
        clocks := { s.clocks with now := max s.clocks.now b.endsAt } }
    let faulted (cause count : Byte) : State :=
      { heard .hunting with link := (heard .hunting).link.post .linkFault [cause, count] }
    let gap := s.link.lastByteEnd + 2000 < b.endsAt - 40
    let begun : Parser := if b.framingError = false ∧ b.data = 0xC3 then .length else .hunting
    (∀ n, gap → (s.link.parser = .length ∧ n = 1 ∨
        ∃ len got, (s.link.parser = .body len got ∨ s.link.parser = .checking len got) ∧ n = got.length + 2) →
      exec (.byteReceived b) s =
        .next { heard begun with link := (heard begun).link.post .linkFault [2, BitVec.ofNat 8 n] }) ∧
    (s.link.parser = .hunting →
      exec (.byteReceived b) s = .next (heard begun)) ∧
    (¬gap → s.link.parser = .length →
      exec (.byteReceived b) s = .next
        (if b.framingError = false ∧ 2 ≤ b.data.toNat ∧ b.data.toNat ≤ 198 then heard (.body b.data [])
         else faulted 0 2)) ∧
    (∀ (len : Byte) (got : List Byte), ¬gap → s.link.parser = .body len got →
      exec (.byteReceived b) s = .next
        (if b.framingError then faulted 1 (BitVec.ofNat 8 (got.length + 3))
         else heard (if got.length + 1 < len.toNat then .body len (got ++ [b.data]) else .checking len (got ++ [b.data])))) ∧
    (∀ (len : Byte) (got : List Byte), ¬gap → s.link.parser = .checking len got →
      b.framingError = true ∨ len + byteSum got + b.data ≠ 0 →
      exec (.byteReceived b) s = .next (faulted 1 (BitVec.ofNat 8 (got.length + 3))))

/-- O6. MESSAGE_RECEIVED: the bytes of a good message, from HUNTING and with no gap of more than 2 ms between them, put it at the
end of a buffer that holds fewer than 4; in STANDBY this starts WAKING with cause MESSAGE, and a device tick whose sense part
has been taken before is passed: it is not one of the twenty (log 31). While RESTART is in dispatch and
its OK or a BUSY of a message that it removed still waits to join, the message is answered BUSY behind all the replies that wait,
or counted where the reply queue is full; after that it is discarded, whatever BUSY of an earlier arrival still waits. Log 23. -/
def Obligations.GoodMessageJoinsTheBuffer : Prop :=
  ∀ (s : State) (rx : List RxByte) (tag kind chk : Byte) (payload : List Byte),
    s.link.parser = .hunting → payload.length ≤ 196 → (∀ b ∈ rx, b.framingError = false) →
    rx.IsChain (fun a b => b.endsAt - 40 ≤ a.endsAt + 2000) →
    rx.map RxByte.data = 0xC3 :: BitVec.ofNat 8 (payload.length + 2) :: tag :: kind :: (payload ++ [chk]) →
    BitVec.ofNat 8 (payload.length + 2) + tag + kind + byteSum payload + chk = 0 →
    (s.link.buffer.length < 4 → (∀ own later, s.link.inDispatch ≠ some (.restart own later)) →
      ∃ t : State, exec (.messageReceived rx) s = .next t ∧
        t = { s with
              link := { s.link with
                        buffer := s.link.buffer ++ [⟨tag, kind, payload⟩]
                        lastByteEnd := t.link.lastByteEnd }
              clocks := { s.clocks with
                          now := t.clocks.now
                          taken := if s.power.state = .standby ∧ .sense ∈ s.clocks.taken then besidesLines ++ s.clocks.taken
                            else s.clocks.taken }
              power := if s.power.state = .standby then ⟨.waking, some .message, 0, s.power.events⟩ else s.power }) ∧
    ∀ own later, s.link.inDispatch = some (.restart own later) →
      ∃ t : State, exec (.messageReceived rx) s = .next t ∧
        t = { s with
              link := { s.link with
                        lastByteEnd := t.link.lastByteEnd
                        inDispatch := if own ≠ [] ∧ s.link.replies.length < 8 then
                            some (.restart own (later ++ [⟨tag, kind + 0x80, [0x04]⟩]))
                          else some (.restart own later)
                        busyDrops := if own ≠ [] ∧ 8 ≤ s.link.replies.length then min 65535 (s.link.busyDrops + 1)
                          else s.link.busyDrops }
              clocks := { s.clocks with now := t.clocks.now } }

/-- O7. A good message that finds 4 in the buffer: BUSY with its own tag and KIND + 0x80, or, with the reply queue full, dropped
and counted. Log 22: a reply that waits for a place joins after it. -/
def Obligations.FifthMessageIsAnsweredBusy : Prop :=
  ∀ (s : State) (len chk : Byte) (got : List Byte) (e : Nat),
    s.link.parser = .checking len got → 4 ≤ s.link.buffer.length → (∀ own later, s.link.inDispatch ≠ some (.restart own later)) →
    len + byteSum got + chk = 0 → e - 40 ≤ s.link.lastByteEnd + 2000 →
    let heard : State :=
      { s with
        link := { s.link with parser := .hunting, lastByteEnd := e }
        clocks := { s.clocks with now := max s.clocks.now e } }
    exec (.byteReceived ⟨chk, false, e⟩) s = .next
      (if s.link.replies.length < 8 then
        { heard with
          link := { heard.link with replies := s.link.replies ++ [⟨got.getD 0 0, got.getD 1 0 + 0x80, [0x04]⟩] } }
       else { heard with link := { heard.link with busyDrops := min 65535 (s.link.busyDrops + 1) } })

/-- O8. RECEIVE_FAULT, with no gap of more than 2 ms between the bytes: a whole message whose sum is not 0 makes fault CHECK with
LEN + 3 bytes, and SOF with a bad LEN byte makes fault LENGTH with 2; the parser hunts, and nothing else of the part changes but
the notice. Log 35. -/
def Obligations.FaultyMessageIsDiscarded : Prop :=
  ∀ (s : State) (rx : List RxByte), s.link.parser = .hunting → (∀ b ∈ rx, b.framingError = false) →
    rx.IsChain (fun a b => b.endsAt - 40 ≤ a.endsAt + 2000) →
    (∀ (len chk : Byte) (body : List Byte), 2 ≤ len.toNat → len.toNat ≤ 198 → body.length = len.toNat →
      rx.map RxByte.data = 0xC3 :: len :: (body ++ [chk]) → len + byteSum body + chk ≠ 0 →
      ∃ t : State, exec (.receiveFault rx) s = .next t ∧
        t = { s with
              link := { (s.link.post .linkFault [1, len + 3]) with lastByteEnd := t.link.lastByteEnd }
              clocks := { s.clocks with now := t.clocks.now } }) ∧
    (∀ len : Byte, len.toNat < 2 ∨ 198 < len.toNat → rx.map RxByte.data = [0xC3, len] →
      ∃ t : State, exec (.receiveFault rx) s = .next t ∧
        t = { s with
              link := { (s.link.post .linkFault [0, 2]) with lastByteEnd := t.link.lastByteEnd }
              clocks := { s.clocks with now := t.clocks.now } })

/-- O9. INTER_BYTE_TIMEOUT: 2 ms after the last byte the message is lost, counting SOF, LEN and the bytes after it. -/
def Obligations.InterByteTimeoutEndsTheMessage : Prop :=
  ∀ (s : State) (n : Nat),
    (s.link.parser = .length ∧ n = 1 ∨ (∃ len got, s.link.parser = .body len got ∧ n = got.length + 2) ∨
      ∃ len got, s.link.parser = .checking len got ∧ n = got.length + 2) →
    exec .interByteTimeout s = .next
      { s with
        link := ({ s.link with parser := .hunting }).post .linkFault [2, BitVec.ofNat 8 n]
        clocks := { s.clocks with now := max s.clocks.now (s.link.lastByteEnd + 2000) } }

/-! ### Dispatch, replies and the transmit arbiter (10.3 to 10.6) -/

/-- O10. DISPATCH_BAD_KIND: a message whose KIND names no command is answered BAD_KIND, and changes nothing else. -/
def Obligations.UnknownKindIsRefused : Prop :=
  ∀ (s : State) (m : LinkMsg) (rest : List LinkMsg),
    s.link.inDispatch = none → (s.power.state = .active ∨ s.power.state = .waking) → s.link.buffer = m :: rest →
    m.kind ∉ commandKinds →
    exec .dispatchBadKind s = .next { s with link := s.link.answered rest m .badKind [] }

/-- O11. Checks 2 and 3 of R174 for every link command, in that order: a wrong length is answered BAD_LENGTH, and in WAKING a
command that is not served there is answered WAKING; nothing else changes. Log 3. -/
def Obligations.LengthAndWakingAreCheckedFirst : Prop :=
  ∀ c ∈ linkCommands, ∀ (s : State) (m : LinkMsg) (rest : List LinkMsg),
    s.link.inDispatch = none → s.link.buffer = m :: rest → m.kind = c.kind →
    (s.power.state = .active ∨ s.power.state = .waking → c.length m.payload = false →
      exec c.command s = .next { s with link := s.link.answered rest m .badLength [] }) ∧
    (s.power.state = .waking → c.length m.payload = true → c.waking = false →
      exec c.command s = .next { s with link := s.link.answered rest m .waking [] })

/-- O12. REPLY_QUEUE_JOIN: a reply that waits joins a queue with room, and its command is then no longer in dispatch; the
replies that RESTART waits for join in order, as many as fit. -/
def Obligations.WaitingRepliesJoinTheQueue : Prop :=
  ∀ (s : State),
    (∀ r : Reply, s.link.inDispatch = some (.replyWaiting r) → s.link.replies.length < 8 →
      exec .replyQueueJoin s =
        .next { s with link := { s.link with replies := s.link.replies ++ [r], inDispatch := none } }) ∧
    (∀ own later : List Reply, s.link.inDispatch = some (.restart own later) →
      let room := 8 - s.link.replies.length
      exec .replyQueueJoin s =
        .next { s with
                link := { s.link with
                          replies := s.link.replies ++ (own ++ later).take room
                          inDispatch := some (.restart (own.drop room) (later.drop (room - own.length))) } })

/-- O13. TRANSMIT_GRANT at a free line: the oldest reply, else the oldest notice with its LOST byte, the flag then clear; the
bytes are SOF, LEN, TAG, KIND, payload, CHK, at 40 µs each, and with LEN they sum to 0. Log 5: the clock moves to the moment the
line is free. While RESTART is in dispatch no notice is sent. -/
def Obligations.TransmitGrantSendsRepliesFirst : Prop :=
  (∀ (s : State) (now : Nat), now = max s.clocks.now (s.link.tx.elim 0 Transmission.endsAt) →
    (∀ (r : Reply) (rest : List Reply), s.link.replies = r :: rest →
      exec .transmitGrant s = .next
        { s with
          link := { s.link with
                    replies := rest
                    tx := some ⟨frameBytes r.tag r.kind r.payload, now + 40 * (r.payload.length + 5)⟩ }
          clocks := { s.clocks with now := now } }) ∧
    (∀ (n : Notice) (rest : List Notice), s.link.replies = [] → s.link.notices = n :: rest →
      (∀ own later, s.link.inDispatch ≠ some (.restart own later)) →
      exec .transmitGrant s = .next
        { s with
          link := { s.link with
                    notices := rest
                    lost := false
                    tx := some ⟨frameBytes 0 n.kind.code ((if s.link.lost then 1 else 0) :: n.fields),
                      now + 40 * (n.fields.length + 6)⟩ }
          clocks := { s.clocks with now := now } }) ∧
    (∀ own later, s.link.replies = [] → s.link.inDispatch = some (.restart own later) →
      exec .transmitGrant s = .next s)) ∧
  ∀ (tag kind : Byte) (payload : List Byte),
    (∃ chk, frameBytes tag kind payload =
      0xC3 :: BitVec.ofNat 8 (payload.length + 2) :: tag :: kind :: (payload ++ [chk])) ∧
    byteSum ((frameBytes tag kind payload).drop 1) = 0

/-- O14. The eight reads of no side effect and STATUS_READ, in ACTIVE and in WAKING: OK with their fields, and nothing else
changes; an operand out of range is RANGE. Then what the fields are, byte by byte: the numbers of each enumeration, the operands of
the three reads with a selector or a flag, and the fields of each reply in order, absent ones left out. The form of some fields:
logs 14 and 15. -/
def Obligations.ReadsAnswerAndChangeNothing : Prop :=
  (∀ (s : State) (m : LinkMsg) (rest : List LinkMsg),
    let answered (fields : List Byte) : Host.Outcome State Fault Refusal :=
      .next { s with link := s.link.answered rest m .ok fields }
    let refused : Host.Outcome State Fault Refusal := .next { s with link := s.link.answered rest m .range [] }
    (s.TakesRead kindStatusRead (lenIs 0) m rest →
      exec .statusRead s = answered { s with link := { s.link with buffer := rest } }.statusFields) ∧
    (∀ z, s.TakesRead kindZoneRead (lenIs 1) m rest → idOf 16 (fieldU8 m.payload 0) = some z →
      exec .zoneRead s = answered (s.zoneFields z)) ∧
    (∀ z, s.TakesRead kindStackRead (lenIs 1) m rest → idOf 16 (fieldU8 m.payload 0) = some z →
      exec .stackRead s = answered (s.stackFields z)) ∧
    (∀ k, s.TakesRead kindMemoryRead lenMemoryRead m rest → parseMemoryRead m.payload = some k →
      exec .memoryRead s = answered (s.memoryFields k)) ∧
    (∀ p, s.TakesRead kindPlayerRead (lenIs 1) m rest → idOf 16 (fieldU8 m.payload 0) = some p →
      exec .playerRead s = answered (s.players[p].fields s.pattern)) ∧
    (s.TakesRead kindInputsRead lenInputsRead m rest → parseInputsRead m.payload = some none →
      exec .inputsRead s = answered s.lineFields) ∧
    (∀ first count, s.TakesRead kindInputsRead lenInputsRead m rest →
      parseInputsRead m.payload = some (some (first, count)) →
      exec .inputsRead s = answered (s.bindingFields first count)) ∧
    (s.TakesRead kindCalRead lenCalRead m rest → parseCalRead m.payload = some none →
      exec .calRead s = answered (s.cal.levelFields s.sense.band.band)) ∧
    (∀ working n, s.TakesRead kindCalRead lenCalRead m rest → parseCalRead m.payload = some (some (working, n)) →
      exec .calRead s = answered (s.cal.setFields working n)) ∧
    (s.TakesRead kindSenseRead (lenIs 0) m rest → exec .senseRead s = answered s.sense.fields) ∧
    (s.TakesRead kindZoneRead (lenIs 1) m rest → 16 ≤ fieldU8 m.payload 0 → exec .zoneRead s = refused) ∧
    (s.TakesRead kindStackRead (lenIs 1) m rest → 16 ≤ fieldU8 m.payload 0 → exec .stackRead s = refused) ∧
    (s.TakesRead kindPlayerRead (lenIs 1) m rest → 16 ≤ fieldU8 m.payload 0 → exec .playerRead s = refused) ∧
    (s.TakesRead kindMemoryRead lenMemoryRead m rest → parseMemoryRead m.payload = none →
      exec .memoryRead s = refused) ∧
    (s.TakesRead kindInputsRead lenInputsRead m rest → parseInputsRead m.payload = none →
      exec .inputsRead s = refused) ∧
    (s.TakesRead kindCalRead lenCalRead m rest → parseCalRead m.payload = none → exec .calRead s = refused)) ∧
  (∀ (p : List Byte),
    let a := fieldU8 p 0
    let b := fieldU8 p 1
    let c := fieldU8 p 2
    (a = 0 → parseMemoryRead p = some none ∧ parseInputsRead p = some none) ∧
    (a = 1 → parseCalRead p = some none) ∧
    (a = 1 → ∀ k : TrackId, b = k.val → parseMemoryRead p = some (some k)) ∧ (a = 1 → 64 ≤ b → parseMemoryRead p = none) ∧
    (a = 1 → parseInputsRead p = if 1 ≤ c ∧ c ≤ 16 ∧ b + c ≤ 32 then some (some (b, c)) else none) ∧
    (a = 0 → ∀ n : SetId, c = n.val → b ≤ 1 → parseCalRead p = some (some (decide (b = 1), n))) ∧
    (a = 0 → 2 ≤ b ∨ 8 ≤ c → parseCalRead p = none) ∧
    (2 ≤ a → parseMemoryRead p = none ∧ parseInputsRead p = none ∧ parseCalRead p = none)) ∧
  ([PowerState.active, .sleeping, .standby, .waking].map PowerState.code = [0, 1, 2, 3] ∧
    [LaneState.disabled, .starting, .running, .paused, .stopping].map LaneState.code = [0, 1, 2, 3, 4] ∧
    [FaultPolicy.blankFaulty, .showAll].map FaultPolicy.code = [0, 1] ∧
    [FadeState.parked, .rising, .steady, .falling].map FadeState.code = [1, 2, 3, 4] ∧
    (∀ a b p, (Source.solid a).code = 0 ∧ (Source.gradient a b).code = 1 ∧ (Source.track p).code = 2) ∧
    [Blend.replace, .add, .max].map Blend.code = [0, 1, 2] ∧
    [SweepOrder.linear, .reverse, .centreOut, .interleaved].map SweepOrder.code = [0, 1, 2, 3] ∧
    [PlayerState.idle, .armed, .running, .paused, .tail, .holding, .ended].map PlayerState.code =
      [0, 1, 2, 3, 4, 5, 6] ∧
    [RunMode.once, .holdLast, .loop].map RunMode.code = [0, 1, 2] ∧
    [RetriggerPolicy.ignore, .replay, .extend].map RetriggerPolicy.code = [0, 1, 2] ∧
    [LineMode.off, .rise, .fall, .both].map LineMode.code = [0, 1, 2, 3] ∧
    [(0 : BitVec 2), 1, 3, 2].map pairCode = [0, 1, 2, 3] ∧ [WheelDir.up, .down].map WheelDir.code = [0, 1] ∧
    (∀ p l, [BindAction.start p, .arm p, .stop p, .show l, .hide l].map BindAction.code = [0, 1, 2, 3, 4] ∧
      [BindAction.start p, .arm p, .stop p, .show l, .hide l].map BindAction.target =
        [p.val, p.val, p.val, l.val, l.val]) ∧
    [BandName.day, .dusk, .night].map BandName.code = [0, 1, 2] ∧
    [ThermalState.normal, .derate, .cutoff].map ThermalState.code = [0, 1, 2] ∧
    [SupplyState.sag, .normal, .high].map SupplyState.code = [0, 1, 2] ∧
    [BitRate.r400k, .r800k, .r1600k].map BitRate.code = [0, 1, 2] ∧
    [TimingMode.grouped, .solo, .onDemand].map TimingMode.code = [0, 1, 2] ∧
    [LatencyMode.buffered, .direct].map LatencyMode.code = [0, 1]) ∧
  let b1 (n : Nat) : List Byte := [BitVec.ofNat 8 n]
  let b2 (n : Nat) : List Byte := [BitVec.ofNat 8 (n / 256), BitVec.ofNat 8 n]
  let b4 (n : Nat) : List Byte := b2 (n / 65536) ++ b2 n
  let signed (x : Int) : List Byte := [BitVec.ofInt 8 x]
  let signed2 (x : Int) : List Byte := [(BitVec.ofInt 16 x).extractLsb' 8 8, (BitVec.ofInt 16 x).extractLsb' 0 8]
  let yes (b : Bool) : List Byte := [if b then 1 else 0]
  let colour (c : RGB) : List Byte := b2 c.r ++ b2 c.g ++ b2 c.b
  (∀ s : State,
    s.statusFields = b1 s.power.state.code ++ b1 s.link.buffer.length ++ b1 s.link.replies.length ++
      b1 s.link.notices.length ++ yes s.link.lost ++ s.link.mask.toList.flatMap yes ++ b2 s.link.busyDrops ++
      s.lanes.toList.flatMap (fun x => b1 x.state.code) ++ b1 s.engine.queue.length ++
      s.engine.queue.flatMap (fun r => b1 r.lane.val) ++
      (match s.engine.job with
       | none => yes false
       | some j => yes true ++ b1 j.lane.val)) ∧
  (∀ (s : State) (z : ZoneId),
    let x := s.zones[z]
    s.zoneFields z = if x.defined then
        b1 1 ++ b1 x.lane.val ++ b1 x.first ++ b1 x.count ++ b1 x.set.val ++ b1 x.trim ++ b1 x.policy.code ++
          b1 s.zoneStacks[z].length
      else b1 0) ∧
  (∀ (s : State) (z : ZoneId),
    s.stackFields z = b1 s.zoneStacks[z].length ++ s.zoneStacks[z].flatMap fun l =>
      match s.layers[l] with
      | none => []
      | some x =>
        b1 l.val ++ b1 x.priority ++ b1 x.state.code ++ b2 x.pos ++ b2 x.fadeTime ++ b1 x.source.code ++
          b1 x.blend.code ++ b1 x.opacity ++
          (match x.source with
           | .solid a => colour a
           | .gradient a b => colour a ++ colour b
           | .track p => b1 p.val) ++
          (match x.range with
           | none => yes false
           | some r => yes true ++ b1 r.first ++ b1 r.count) ++
          b1 x.sweep.code ++ b1 x.step) ∧
  (∀ (s : State) (asked : Option TrackId),
    let state (t : Option Track) : Nat :=
      match t with
      | none => 0
      | some t => if t.damage ≠ [] ∨ t.rewrite ≠ none then 2 else 1
    s.memoryFields asked = b1 s.pattern.free.length ++ (s.pattern.free.take 1).flatMap (fun b => b1 b.val) ++
      s.pattern.tracks.toList.flatMap (fun t => b1 (state t)) ++
      (match asked with
       | none => []
       | some k =>
         match s.pattern.tracks[k] with
         | none => []
         | some t =>
           b2 t.count ++ b2 t.duration ++ t.chain.flatMap (fun b => b1 b.val) ++ b1 t.damage.length ++
             t.damage.flatMap b2 ++
             (match t.rewrite with
              | none => yes false
              | some r => yes true ++ b2 r) ++
             b1 ((List.finRange 16).countP fun p => decide (s.players[p].settings.track = some k ∨
               ∃ st ∈ s.players[p].staged, st.track = some k)))) ∧
  (∀ (x : Player) (pm : PatternMemory),
    let track (k : Option TrackId) : List Byte :=
      match k with
      | none => yes false
      | some k => yes true ++ b1 k.val
    let hold (h : Option Nat) : List Byte :=
      match h with
      | none => yes false
      | some h => yes true ++ b2 h
    let st := x.settings
    let endless := st.mode = .loop ∧ st.loops = 0
    let duration := ((st.track.bind fun k => pm.tracks[k]).map Track.duration).getD 0
    x.fields pm = b1 x.state.code ++ b4 x.elapsed ++ yes x.holdPassed ++ x.windowLeft.toList.flatMap b2 ++
      track st.track ++ b1 st.mode.code ++ b2 st.rate ++ b1 st.loops ++ b2 st.tail ++ b1 st.policy.code ++
      b2 st.window ++ yes st.endNotice ++ hold st.holdPoint ++
      (if st.track.bind (fun k => pm.tracks[k]) = none ∨ endless then []
       else b4 (if st.mode = .loop then st.loops * duration else duration)) ++
      (match x.staged with
       | none => yes false
       | some y =>
         yes true ++ track y.track ++ b1 y.mode.code ++ b2 y.rate ++ b1 y.loops ++ b2 y.tail ++ b1 y.policy.code ++
           hold y.holdPoint ++ b2 y.window ++ yes y.endNotice)) ∧
  (∀ s : State,
    s.lineFields = s.lines.toList.flatMap (fun x =>
        b1 x.mode.code ++ b1 x.filter ++ yes x.wake ++
          (match x.level with
           | none => yes false
           | some v => yes true ++ yes v) ++
          b1 x.changes) ++
      b1 s.cal.wheelIndex.val ++
      (match s.wheel.lastPair with
       | none => yes false
       | some q => yes true ++ b1 (pairCode q)) ++
      signed s.wheel.transitions ++
      (match s.wheel.lastDir with
       | none => yes false
       | some d => yes true ++ b1 d.code) ++
      b1 s.power.events.length ++ s.power.events.flatMap fun e => b1 e.line.val) ∧
  (∀ (s : State) (first count : Nat), first + count ≤ 32 →
    s.bindingFields first count = b1 count ++ ((List.finRange 32).filter fun i =>
        decide (first ≤ i.val ∧ i.val < first + count)).flatMap fun i =>
      b1 i.val ++
        (match s.bindings[i] with
         | none => b1 0
         | some b => b1 1 ++ yes b.enabled ++ b1 b.source.val ++ b1 b.action.code ++ b1 b.action.target)) ∧
  (∀ (c : CalStore) (band : BandName),
    let factor := match band with
      | .day => c.factorDay
      | .dusk => c.factorDusk
      | .night => c.factorNight
    c.levelFields band = b1 c.wheelIndex.val ++ b1 band.code ++ b2 c.factorDay ++ b2 c.factorDusk ++ b2 c.factorNight ++
      b2 (min 1023 (c.curve[c.wheelIndex] * factor / 256)) ++ c.curve.toList.flatMap b2) ∧
  (∀ (c : CalStore) (working : Bool) (n : SetId),
    let x := if working then c.working[n] else c.factory[n]
    c.setFields working n = yes working ++ b1 n.val ++
      [x.mRR, x.mRG, x.mRB, x.mGR, x.mGG, x.mGB, x.mBR, x.mBG, x.mBB].flatMap signed2 ++
      [x.kR, x.kG, x.kB].flatMap signed ++ [x.iR, x.iG, x.iB].flatMap b1) ∧
  ∀ x : SenseMonitor,
    let degrees (code : Option (BitVec 12)) : Int :=
      match code with
      | none => 25
      | some code => ((code.toNat * 165 / 4095 : Nat) : Int) - 40
    let last (code : Option (BitVec 12)) : List Byte :=
      match code with
      | none => yes false
      | some code => yes true ++ b2 code.toNat
    x.fields = (List.finRange 4).flatMap (fun l =>
        last x.codes[laneChannel l] ++ signed (degrees x.codes[laneChannel l])) ++
      (match x.codes[(4 : ChannelId)] with
       | none => yes false
       | some code => yes true ++ b2 code.toNat ++ b2 code.toNat) ++
      (match x.codes[(5 : ChannelId)] with
       | none => yes false
       | some code => yes true ++ b2 code.toNat ++ b2 (code.toNat * 20000 / 4095)) ++
      x.thermal.toList.flatMap (fun y =>
        b1 y.state.code ++ signed y.derateAt ++ signed y.cutoffAt ++ signed y.resumeBelow ++ b1 y.persistence ++
          b1 y.hot ++ b1 y.warm ++ b1 y.cool) ++
      b1 x.supply.state.code ++ b2 x.supply.sagBelow ++ b2 x.supply.highAbove ++ b1 x.supply.persistence ++
      b1 x.supply.low ++ b1 x.supply.inside ++ b1 x.supply.high ++
      b1 x.band.band.code ++
      (match x.band.candidate with
       | none => yes false
       | some b => yes true ++ b1 b.code) ++
      b1 x.band.count ++ b2 x.band.duskBelow ++ b2 x.band.nightBelow ++ b1 x.band.persistence ++ b1 x.phase

/-- O15. NOTICE_MASK writes the 13 enables, and answers those that stood before; a flag other than 0 or 1 is RANGE and changes
nothing. -/
def Obligations.NoticeMaskWritesThirteenEnables : Prop :=
  ∀ (s : State) (m : LinkMsg) (rest : List LinkMsg), s.Takes kindNoticeMask (lenIs 13) m rest →
    (∀ mask : Tab Bool 13, (∀ k : Fin 13, m.payload.getD k.val 0 = if mask[k] then 1 else 0) →
      exec .noticeMask s = .next
        { s with
          link := { (s.link.answered rest m .ok ((List.finRange 13).map fun k => if s.link.mask[k] then 1 else 0)) with
                    mask := mask } }) ∧
    (∀ k : Fin 13, 2 ≤ (m.payload.getD k.val 0).toNat →
      exec .noticeMask s = .next { s with link := s.link.answered rest m .range [] })

/-- O16. RESTART: the OK, then a BUSY for each message behind it, wait in order for places in the reply queue, and the buffer is
empty. Log 23. -/
def Obligations.RestartAnswersTheBuffer : Prop :=
  ∀ (s : State) (m : LinkMsg) (rest : List LinkMsg), s.Takes kindRestart (lenIs 0) m rest →
    let ws : List Reply := ⟨m.tag, m.kind + 0x80, [0x00]⟩ :: rest.map fun n => ⟨n.tag, n.kind + 0x80, [0x04]⟩
    exec .restart s = .next
      { s with
        link := { s.link with
                  buffer := []
                  replies := s.link.replies ++ ws.take (8 - s.link.replies.length)
                  inDispatch := some (.restart (ws.drop (8 - s.link.replies.length)) []) } }

/-! ### Zones (01) -/

/-- O17. ZONE_DEFINE: with its checks passed the zone holds the six requested fields; each failed check gives its status, a field
out of range RANGE first, and then only the reply is new. Nothing else changes. ZONE_CLEAR: an empty DEFINED zone takes the
UNDEFINED values, an UNDEFINED one is left as it is, and a zone with layers is refused with IN_USE, and a zone number outside
0..15 with RANGE. -/
def Obligations.ZoneCommandsWriteOneZone : Prop :=
  (∀ (s : State) (m : LinkMsg) (rest : List LinkMsg),
      (s.Takes kindZoneDefine (lenIs 7) m rest → parseZoneDefine m.payload = none →
        exec .zoneDefine s = .next { s with link := s.link.answered rest m .range [] }) ∧
      (s.Takes kindZoneClear (lenIs 1) m rest → 16 ≤ fieldU8 m.payload 0 →
        exec .zoneClear s = .next { s with link := s.link.answered rest m .range [] })) ∧
  (∀ (s : State) (m : LinkMsg) (rest : List LinkMsg) (a : ZoneDefineArgs),
      s.Takes kindZoneDefine (lenIs 7) m rest → parseZoneDefine m.payload = some a →
      let fits := a.first + a.count ≤ s.lanes[a.lane].nodeCount
      let free := s.zoneStacks[a.zone] = [] ∨
        s.zones[a.zone].lane = a.lane ∧ s.zones[a.zone].first = a.first ∧ s.zones[a.zone].count = a.count
      let apart := ∀ y : ZoneId, y ≠ a.zone → s.zones[y].defined = true → s.zones[y].lane = a.lane →
        a.first + a.count ≤ s.zones[y].first ∨ s.zones[y].first + s.zones[y].count ≤ a.first
      (fits → free → apart →
        exec .zoneDefine s = .next
          { s with
            zones := s.zones.put a.zone ⟨true, a.lane, a.first, a.count, a.set, a.trim, a.policy⟩
            link := s.link.answered rest m .ok [] }) ∧
      (¬fits → exec .zoneDefine s = .next { s with link := s.link.answered rest m .range [] }) ∧
      (fits → ¬free → exec .zoneDefine s = .next { s with link := s.link.answered rest m .inUse [] }) ∧
      (fits → free → ¬apart → exec .zoneDefine s = .next { s with link := s.link.answered rest m .overlap [] })) ∧
  (∀ (s : State) (m : LinkMsg) (rest : List LinkMsg) (z : ZoneId),
      s.Takes kindZoneClear (lenIs 1) m rest → fieldU8 m.payload 0 = z.val →
      (s.zoneStacks[z] = [] → s.zones[z].defined = true →
        exec .zoneClear s = .next
          { s with
            zones := s.zones.put z ⟨false, 0, 0, 0, 0, 255, .showAll⟩
            link := s.link.answered rest m .ok [] }) ∧
      (s.zoneStacks[z] = [] → s.zones[z].defined = false →
        exec .zoneClear s = .next { s with link := s.link.answered rest m .ok [] }) ∧
      (s.zoneStacks[z] ≠ [] → exec .zoneClear s = .next { s with link := s.link.answered rest m .inUse [] }))

/-! ### Layers (03) -/

/-- O18. LAYER_PLACE: with its checks passed the layer's record is written, and the layer stands in its zone's stack above every
layer of equal or lower priority that is below the first of higher priority; the reply is OK with its place and the depth. The
refusals of R46 come in its order, and then only the reply is new: RANGE, STATE for a placed layer and for an UNDEFINED zone,
FULL, and RANGE for a node range that does not fit. Log 37: a range-present flag other than 0 or 1 fails check 1. -/
def Obligations.LayerPlaceInsertsByPriority : Prop :=
  ∀ (s : State) (m : LinkMsg) (rest : List LinkMsg), s.Takes kindLayerPlace (lenIs 27) m rest →
    let refused (status : Status) : Prop := exec .layerPlace s = .next { s with link := s.link.answered rest m status [] }
    (parseLayerPlace m.payload = none → refused .range) ∧ (2 ≤ fieldU8 m.payload 19 → refused .range) ∧
    ∀ a : LayerPlaceArgs, parseLayerPlace m.payload = some a →
      let depth := s.zoneStacks[a.zone].length
      let free := s.layers[a.layer] = none
      let defined := s.zones[a.zone].defined = true
      let fits := ∀ r ∈ a.range, 1 ≤ r.count ∧ r.first + r.count ≤ s.zones[a.zone].count
      (free → defined → depth < 6 → fits →
        ∃ (lower upper : List LayerId),
          s.zoneStacks[a.zone] = lower ++ upper ∧ (∀ l ∈ lower, s.priorityOf l ≤ a.priority) ∧
          (∀ l ∈ upper.head?, a.priority < s.priorityOf l) ∧
          exec .layerPlace s = .next
            { s with
              layers := s.layers.put a.layer
                (some ⟨if a.shown then .rising else .parked, a.zone, a.priority, a.source, a.blend, a.opacity, a.range,
                  a.sweep, a.step, a.fadeTime, 0⟩)
              zoneStacks := s.zoneStacks.put a.zone (lower ++ a.layer :: upper)
              link := s.link.answered rest m .ok [BitVec.ofNat 8 lower.length, BitVec.ofNat 8 (depth + 1)] }) ∧
      (¬free → refused .state) ∧ (free → ¬defined → refused .state) ∧ (free → defined → 6 ≤ depth → refused .full) ∧
      (free → defined → depth < 6 → ¬fits → refused .range)

/-- O19. R48, whole. LAYER_LIFT: a layer number outside 0..47 is RANGE; a placed layer leaves its stack, the others keeping their
order, and becomes FREE; a FREE layer is answered OK and nothing changes. -/
def Obligations.LayerLiftFreesTheLayer : Prop :=
  ∀ (s : State) (m : LinkMsg) (rest : List LinkMsg), s.Takes kindLayerLift (lenIs 1) m rest →
    (48 ≤ fieldU8 m.payload 0 → exec .layerLift s = .next { s with link := s.link.answered rest m .range [] }) ∧
    ∀ l : LayerId, fieldU8 m.payload 0 = l.val →
      (∀ x, s.layers[l] = some x →
        exec .layerLift s = .next
          { s with
            layers := s.layers.put l none
            zoneStacks := s.zoneStacks.put x.zone (s.zoneStacks[x.zone].erase l)
            link := s.link.answered rest m .ok [] }) ∧
      (s.layers[l] = none → exec .layerLift s = .next { s with link := s.link.answered rest m .ok [] })

/-- O20. LAYER_SET, LAYER_SHOW and LAYER_HIDE on a placed layer: the fields and the fade position of R50, and the states of
R51 and R52; the reply carries the state and L. A FREE layer is refused with STATE, and a field out of range with RANGE. Nothing
else changes. -/
def Obligations.LayerCommandsChangeOneLayer : Prop :=
  (∀ (s : State) (m : LinkMsg) (rest : List LinkMsg),
    let outOfRange : Host.Outcome State Fault Refusal := .next { s with link := s.link.answered rest m .range [] }
    (s.Takes kindLayerSet (lenIs 21) m rest → parseLayerSet m.payload = none → exec .layerSet s = outOfRange) ∧
    (s.Takes kindLayerShow (lenIs 1) m rest → 48 ≤ fieldU8 m.payload 0 → exec .layerShow s = outOfRange) ∧
    (s.Takes kindLayerHide (lenIs 1) m rest → 48 ≤ fieldU8 m.payload 0 → exec .layerHide s = outOfRange)) ∧
  ∀ (s : State) (m : LinkMsg) (rest : List LinkMsg),
    let changed (l : LayerId) (y : LayerRec) : Host.Outcome State Fault Refusal :=
      .next
        { s with
          layers := s.layers.put l (some y)
          link := s.link.answered rest m .ok
            [BitVec.ofNat 8 y.state.code, BitVec.ofNat 8 (y.pos / 256), BitVec.ofNat 8 y.pos] }
    let refused : Host.Outcome State Fault Refusal := .next { s with link := s.link.answered rest m .state [] }
    (∀ a, s.Takes kindLayerSet (lenIs 21) m rest → parseLayerSet m.payload = some a →
      (∀ x, s.layers[a.layer] = some x →
        exec .layerSet s = changed a.layer
          { x with
            source := a.source
            blend := a.blend
            opacity := a.opacity
            sweep := a.sweep
            step := a.step
            fadeTime := a.fadeTime
            pos := match x.state with
              | .parked => 0
              | .steady => a.fadeTime
              | .rising => min x.pos a.fadeTime
              | .falling => min x.pos a.fadeTime }) ∧
      (s.layers[a.layer] = none → exec .layerSet s = refused)) ∧
    (∀ l : LayerId, s.Takes kindLayerShow (lenIs 1) m rest → fieldU8 m.payload 0 = l.val →
      (∀ x, s.layers[l] = some x →
        exec .layerShow s = changed l
          (match x.state with
           | .parked => { x with state := .rising, pos := 0 }
           | .falling => { x with state := .rising }
           | .rising => x
           | .steady => x)) ∧
      (s.layers[l] = none → exec .layerShow s = refused)) ∧
    (∀ l : LayerId, s.Takes kindLayerHide (lenIs 1) m rest → fieldU8 m.payload 0 = l.val →
      (∀ x, s.layers[l] = some x →
        exec .layerHide s = changed l
          (match x.state with
           | .rising => { x with state := .falling }
           | .steady => { x with state := .falling }
           | .falling => x
           | .parked => x)) ∧
      (s.layers[l] = none → exec .layerHide s = refused))

/-- O21. FADE_END: the layer's part of the coming device tick ends its fade: a RISING layer within one of F becomes STEADY at F, a
FALLING one within one of 0 becomes PARKED at 0. Log 4. -/
def Obligations.FadeEndsAtItsLimit : Prop :=
  ∀ (s : State) (l : LayerId) (x : LayerRec),
    s.power.state = .active ∨ s.power.state = .waking → .fade l ∉ s.clocks.taken → s.layers[l] = some x →
    let ended (y : LayerRec) : Host.Outcome State Fault Refusal :=
      .next
        { s with
          layers := s.layers.put l (some y)
          clocks := { s.clocks with now := max s.clocks.now s.clocks.deviceDue, taken := .fade l :: s.clocks.taken } }
    (x.state = .rising → x.pos + 1 = x.fadeTime ∨ x.pos = x.fadeTime →
      exec (.fadeEnd l) s = ended { x with state := .steady, pos := x.fadeTime }) ∧
    (x.state = .falling → x.pos ≤ 1 → exec (.fadeEnd l) s = ended { x with state := .parked, pos := 0 })

/-- O22. R44, whole: the fade factor from the state, L and F. A layer in the states of R42 has it in 0..256, and a STEADY one has
256. -/
def Obligations.FadeFactorTable : Prop :=
  ∀ x : LayerRec,
    (x.fadeTime = 0 → x.state = .steady → x.fadeFactor = 256) ∧
    (x.fadeTime = 0 → x.state = .rising ∨ x.state = .falling → x.fadeFactor = 0) ∧
    (0 < x.fadeTime → x.state ≠ .parked → x.fadeFactor = 256 * x.pos / x.fadeTime) ∧
    (x.FadeOk → x.fadeFactor ≤ 256 ∧ (x.state = .steady → x.fadeFactor = 256)) ∧
    ∀ (s : State) (r : Request) (z : ZoneId) (y : LayerRec),
      y ∈ (s.newJob r).zoneStacks[z] ↔ ∃ l ∈ s.zoneStacks[z], s.layers[l] = some y

/-! ### Pattern memory (04) -/

/-- O23. TRACK_CREATE: the lowest free blocks become the chain of a track with times 0 to n - 1, no damage and no overflow, and
each of its keyframes is whole, at time i, black, coverage 0 and LINEAR, where the chain names no block twice. The slots of other
blocks and the other tracks stay. The refusals of R63 in its order, which change nothing: a track number outside 0..63 or a count
outside 2..512 is RANGE, a track that is not FREE is STATE, and too few free blocks are NO_SPACE. Log 14: the chain in the reply has
a count byte. -/
def Obligations.TrackCreateTakesTheLowestBlocks : Prop :=
  (∀ (s : State) (m : LinkMsg) (rest : List LinkMsg), s.Takes kindTrackCreate (lenIs 3) m rest →
    let n := fieldU16 m.payload 1
    let refused (status : Status) : Prop := exec .trackCreate s = .next { s with link := s.link.answered rest m status [] }
    (64 ≤ fieldU8 m.payload 0 ∨ n < 2 ∨ 512 < n → refused .range) ∧
    ∀ k : TrackId, fieldU8 m.payload 0 = k.val → 2 ≤ n → n ≤ 512 →
      parseTrackCreate m.payload = some (k, n) ∧ (s.pattern.tracks[k] ≠ none → refused .state) ∧
      (s.pattern.tracks[k] = none → s.pattern.free.length < (n + 15) / 16 → refused .noSpace)) ∧
  ∀ (s : State) (m : LinkMsg) (rest : List LinkMsg) (k : TrackId) (n : Nat),
    s.Takes kindTrackCreate (lenIs 3) m rest → parseTrackCreate m.payload = some (k, n) →
    s.pattern.tracks[k] = none → (n + 15) / 16 ≤ s.pattern.free.length → s.pattern.free.Nodup →
    let chain := s.pattern.free.take ((n + 15) / 16)
    ∃ t : State, exec .trackCreate s = .next t ∧
      t = { s with
            pattern := t.pattern
            link := s.link.answered rest m .ok
              (BitVec.ofNat 8 chain.length :: (chain.map (fun b => BitVec.ofNat 8 b.val) ++
                [BitVec.ofNat 8 (s.pattern.free.length - chain.length)])) } ∧
      t.pattern.free = s.pattern.free.drop ((n + 15) / 16) ∧
      t.pattern.tracks = s.pattern.tracks.put k (some ⟨n, chain, List.range n, [], none⟩) ∧
      (∀ i < n, ∃ code, t.pattern.key ⟨n, chain, List.range n, [], none⟩ i =
        ⟨i, ⟨0, 0, 0⟩, 0, .linear, code, false⟩) ∧
      ∀ b : BlockId, b ∉ chain → t.pattern.blocks[b] = s.pattern.blocks[b]

/-- O24. KEYS_WRITE that no job holds: the track record of R67 and R69, and each written keyframe whole with the fields that the
mask selects; the reply carries the state and the duration. Every other slot of pattern memory stays. The refusals of R65 in its
order, which change nothing: RANGE for a field out of range, STATE for a FREE track, RANGE for a run past the last keyframe, and
ORDER for times that would not rise from 0 (R66). -/
def Obligations.KeysWriteWritesTheMaskedFields : Prop :=
  (∀ (s : State) (m : LinkMsg) (rest : List LinkMsg), s.Takes kindKeysWrite lenKeysWrite m rest →
    let count := fieldU8 m.payload 3
    let mask := fieldU8 m.payload 4
    let badEase := mask.testBit 3 = true ∧ ∃ j < count, 3 ≤ fieldU8 m.payload (5 + 10 * j + 9)
    let refused (status : Status) : Prop := exec .keysWrite s = .next { s with link := s.link.answered rest m status [] }
    (64 ≤ fieldU8 m.payload 0 ∨ count = 0 ∨ 16 < count ∨ mask = 0 ∨ 15 < mask ∨ badEase →
      parseKeysWrite m.payload = none) ∧
    (parseKeysWrite m.payload = none → refused .range) ∧
    ∀ a, parseKeysWrite m.payload = some a →
      (s.pattern.tracks[a.track] = none → refused .state) ∧
      ∀ t, s.pattern.tracks[a.track] = some t →
        let after := t.times.take a.first ++ a.entries.map KeyEntry.time ++ t.times.drop (a.first + a.count)
        (t.count < a.first + a.count → refused .range) ∧
        (a.first + a.count ≤ t.count → a.maskTime = true → ¬(after.head? = some 0 ∧ after.Pairwise (· < ·)) →
          refused .order)) ∧
  ∀ (s : State) (m : LinkMsg) (rest : List LinkMsg) (a : KeysWriteArgs) (t : Track),
    s.Takes kindKeysWrite lenKeysWrite m rest → parseKeysWrite m.payload = some a →
    s.pattern.tracks[a.track] = some t → a.first + a.count ≤ t.count →
    (a.maskTime = true → timesInOrder (a.timesAfter t) = true) → s.engine.readsTrack a.track = false →
    t.chain.Nodup → t.chain.length = (t.count + 15) / 16 →
    ∃ (u : State) (t' : Track), exec .keysWrite s = .next u ∧
      u = { s with
            pattern := u.pattern
            link := s.link.answered rest m .ok
              [if t'.damage ≠ [] ∨ t'.rewrite ≠ none then 2 else 1, BitVec.ofNat 8 (t'.duration / 256),
                BitVec.ofNat 8 t'.duration] } ∧
      t' = ⟨t.count, t.chain,
        if a.maskTime then t.times.take a.first ++ a.entries.map KeyEntry.time ++ t.times.drop (a.first + a.count)
          else t.times,
        t.damage.filter fun i => !decide (a.first ≤ i ∧ i < a.first + a.count), 
        match t.rewrite with
        | none => none
        | some r =>
          if a.first ≤ r ∧ r < a.first + a.count then
            (if a.first + a.count < t.count then some (a.first + a.count) else none)
          else some r⟩ ∧
      u.pattern.free = s.pattern.free ∧ u.pattern.tracks = s.pattern.tracks.put a.track (some t') ∧
      (∀ j < a.count, ∃ (e : KeyEntry) (x y : Slot), a.entries[j]? = some e ∧ x = s.pattern.key t (a.first + j) ∧
        y = u.pattern.key t (a.first + j) ∧ y.mismatched = false ∧
        y.time = (if a.maskTime then e.time else x.time) ∧ y.colour = (if a.maskColour then e.colour else x.colour) ∧
        y.coverage = (if a.maskAlpha then e.coverage else x.coverage) ∧
        y.ease = if a.maskEase then e.ease else x.ease) ∧
      (∀ i < t.count, i < a.first ∨ a.first + a.count ≤ i → u.pattern.key t i = s.pattern.key t i) ∧
      ∀ (b : BlockId) (k : SlotId),
        (∀ j < a.count, ¬(t.chain[(a.first + j) / 16]? = some b ∧ (a.first + j) % 16 = k.val)) →
        u.pattern.blocks[b][k] = s.pattern.blocks[b][k]

/-- O25. KEYS_WRITE that the job in progress holds stays in dispatch, and nothing of pattern memory changes (R68). -/
def Obligations.KeysWriteWaitsForTheJobThatReadsIt : Prop :=
  ∀ (s : State) (m : LinkMsg) (rest : List LinkMsg) (a : KeysWriteArgs) (t : Track),
    s.Takes kindKeysWrite lenKeysWrite m rest → parseKeysWrite m.payload = some a →
    s.pattern.tracks[a.track] = some t → a.first + a.count ≤ t.count →
    (a.maskTime = true → timesInOrder (a.timesAfter t) = true) → s.engine.readsTrack a.track = true →
    exec .keysWrite s = .next { s with link := { s.link with buffer := rest, inDispatch := some (.heldKeys m) } }

/-- O26. KEYS_READ of whole keyframes answers them and changes nothing else. The mismatched ones are reported in ascending index
before the reply, each by the table of R71: one already listed changes nothing; one that finds room joins the list; one that finds
4 listed sets the rewrite position to 0, and the flag where it was clear; KEYFRAME_DAMAGED is posted but in the first case and
where the flag was set. Log 14: the keyframes in the reply have a count byte. Log 15: the flag of each is 1 when mismatched. A
field out of range and a run past the last keyframe are RANGE, and a FREE track is STATE. -/
def Obligations.KeysReadChecksWhatItReports : Prop :=
  (∀ (s : State) (m : LinkMsg) (rest : List LinkMsg), s.TakesRead kindKeysRead (lenIs 4) m rest →
    let refused (status : Status) : Prop := exec .keysRead s = .next { s with link := s.link.answered rest m status [] }
    (parseKeysRead m.payload = none → refused .range) ∧
    ∀ k first count, parseKeysRead m.payload = some (k, first, count) →
      (s.pattern.tracks[k] = none → refused .state) ∧
      ∀ t, s.pattern.tracks[k] = some t → t.count < first + count → refused .range) ∧
  ∀ (s : State) (m : LinkMsg) (rest : List LinkMsg) (k : TrackId) (first count : Nat) (t : Track),
    s.TakesRead kindKeysRead (lenIs 4) m rest → parseKeysRead m.payload = some (k, first, count) →
    s.pattern.tracks[k] = some t → first + count ≤ t.count →
    let fields : List Byte := BitVec.ofNat 8 count :: (keyRun first count).flatMap (s.pattern.keyFields t)
    let report (u : State) (i : Nat) : State :=
      match u.pattern.tracks[k] with
      | none => u
      | some x =>
        let put (y : Track) : State :=
          { u with pattern := { u.pattern with tracks := u.pattern.tracks.put k (some y) } }
        let noted (y : Track) : State :=
          { put y with
            link := u.link.post .keyframeDamaged
              [BitVec.ofNat 8 k.val, BitVec.ofNat 8 (i / 256), BitVec.ofNat 8 i, BitVec.ofNat 8 y.damage.length,
                if y.rewrite = none then 0 else 1] }
        if i ∈ x.damage then u
        else if x.damage.length < 4 then noted { x with damage := x.damage ++ [i] }
        else if x.rewrite = none then noted { x with rewrite := some 0 }
        else put { x with rewrite := some 0 }
    let u := ((keyRun first count).filter fun i => (s.pattern.key t i).mismatched).foldl report s
    exec .keysRead s = .next { u with link := u.link.answered rest m .ok fields } ∧
    (∀ i, s.pattern.keyFields t i =
      [BitVec.ofNat 8 (t.times.getD i 0 / 256), BitVec.ofNat 8 (t.times.getD i 0)] ++
        colourBytes (s.pattern.key t i).colour ++
        [BitVec.ofNat 8 (s.pattern.key t i).coverage, BitVec.ofNat 8 (easeCode (s.pattern.key t i).ease),
          if (s.pattern.key t i).mismatched then 1 else 0]) ∧
    ((∀ j < count, (s.pattern.key t (first + j)).mismatched = false) →
      exec .keysRead s = .next { s with link := s.link.answered rest m .ok fields }) ∧
    (∀ i, first ≤ i → i < first + count → (∀ j < count, (s.pattern.key t (first + j)).mismatched = decide (first + j = i)) →
      i ∉ t.damage → t.damage.length < 4 →
      exec .keysRead s = .next
        { s with
          pattern := { s.pattern with tracks := s.pattern.tracks.put k (some { t with damage := t.damage ++ [i] }) }
          link := (s.link.post .keyframeDamaged
            [BitVec.ofNat 8 k.val, BitVec.ofNat 8 (i / 256), BitVec.ofNat 8 i, BitVec.ofNat 8 (t.damage.length + 1),
              if t.rewrite = none then 0 else 1]).answered rest m .ok fields })

/-- O27. TRACK_FREE: refused while a player names the track or the job in progress reads it; else the track is FREE, and the
free-block list ascends with its blocks in it; a FREE track is answered OK and nothing changes. The count in the reply of a FREE
track: log 16. A track number outside 0..63 is RANGE. -/
def Obligations.TrackFreeReturnsTheBlocks : Prop :=
  (∀ (s : State) (m : LinkMsg) (rest : List LinkMsg), s.Takes kindTrackFree (lenIs 1) m rest →
    64 ≤ fieldU8 m.payload 0 → exec .trackFree s = .next { s with link := s.link.answered rest m .range [] }) ∧
  ∀ (s : State) (m : LinkMsg) (rest : List LinkMsg) (k : TrackId),
    s.Takes kindTrackFree (lenIs 1) m rest → fieldU8 m.payload 0 = k.val →
    let named := (∃ p : PlayerId, s.players[p].names k = true) ∨ s.engine.readsTrack k = true
    (named → exec .trackFree s = .next { s with link := s.link.answered rest m .inUse [] }) ∧
    (¬named → s.pattern.tracks[k] = none →
      exec .trackFree s = .next
        { s with link := s.link.answered rest m .ok [BitVec.ofNat 8 s.pattern.free.length] }) ∧
    ∀ t, ¬named → s.pattern.tracks[k] = some t →
      ∃ free : List BlockId,
        exec .trackFree s = .next
          { s with
            pattern := ⟨s.pattern.blocks, s.pattern.tracks.put k none, free⟩
            link := s.link.answered rest m .ok [BitVec.ofNat 8 free.length] } ∧
        free.Perm (t.chain ++ s.pattern.free) ∧ (s.pattern.free.Pairwise (· ≤ ·) → free.Pairwise (· ≤ ·))

/-- O28. STORAGE_UPSET: the slot holds the changed content, and it is mismatched when anything of it changed. Log 7. -/
def Obligations.UpsetLeavesTheSlotMismatched : Prop :=
  ∀ (s : State) (b : BlockId) (k : SlotId) (u : Upset),
    let x := s.pattern.blocks[b][k]
    let y (bad : Bool) : Slot :=
      ⟨u.time.toNat, ⟨u.red.toNat, u.green.toNat, u.blue.toNat⟩, u.coverage.toNat, u.ease, x.code ^^^ u.codeFlip, bad⟩
    exec (.storageUpset b k u) s = .next
      { s with
        pattern := { s.pattern with
                     blocks := s.pattern.blocks.put b
                       (s.pattern.blocks[b].put k (if y x.mismatched = x then x else y true)) } }

/-! ### Calibration (07) -/

/-- O29. CAL_WRITE and CAL_RESTORE of a set that no job reads write the set and answer OK; while the job in progress reads it
they stay in dispatch (R121). A set number outside 0..7, and for CAL_WRITE a value outside its range, is RANGE and changes
nothing. -/
def Obligations.CalibrationWritesOneSetOrWaits : Prop :=
  (∀ (s : State) (m : LinkMsg) (rest : List LinkMsg),
    let x := calSetAt m.payload
    let inRange := (∀ c ∈ [x.mRR, x.mRG, x.mRB, x.mGR, x.mGG, x.mGB, x.mBR, x.mBG, x.mBB], -8192 ≤ c ∧ c ≤ 8191) ∧
      (∀ c ∈ [x.kR, x.kG, x.kB], -64 ≤ c ∧ c ≤ 64) ∧ ∀ c ∈ [x.iR, x.iG, x.iB], 1 ≤ c ∧ c ≤ 255
    (∀ w : SetId, fieldU8 m.payload 0 = w.val → inRange → parseCalWrite m.payload = some (w, x)) ∧
    (s.Takes kindCalWrite (lenIs 25) m rest → 8 ≤ fieldU8 m.payload 0 ∨ ¬inRange →
      exec .calWrite s = .next { s with link := s.link.answered rest m .range [] }) ∧
    (s.Takes kindCalRestore (lenIs 1) m rest → 8 ≤ fieldU8 m.payload 0 →
      exec .calRestore s = .next { s with link := s.link.answered rest m .range [] })) ∧
  ∀ (s : State) (m : LinkMsg) (rest : List LinkMsg) (w : SetId),
    (∀ x, s.Takes kindCalWrite (lenIs 25) m rest → parseCalWrite m.payload = some (w, x) →
      (s.engine.readsSet w = false →
        exec .calWrite s = .next
          { s with
            cal := { s.cal with working := s.cal.working.put w x }
            link := s.link.answered rest m .ok [] }) ∧
      (s.engine.readsSet w = true →
        exec .calWrite s = .next { s with link := { s.link with buffer := rest, inDispatch := some (.heldSet m) } })) ∧
    (s.Takes kindCalRestore (lenIs 1) m rest → fieldU8 m.payload 0 = w.val →
      (s.engine.readsSet w = false →
        exec .calRestore s = .next
          { s with
            cal := { s.cal with working := s.cal.working.put w s.cal.factory[w] }
            link := s.link.answered rest m .ok [] }) ∧
      (s.engine.readsSet w = true →
        exec .calRestore s = .next { s with link := { s.link with buffer := rest, inDispatch := some (.heldSet m) } }))

/-- O30. CURVE_WRITE, DIMMER_SET and BAND_FACTORS write the curve's run, the wheel index and the three factors, hold for no job, and
change nothing else; a value out of range is RANGE and writes nothing. The master level is the curve's entry at the wheel index
scaled by the factor of the band, and at most 1023. -/
def Obligations.LevelCommandsWriteTheStore : Prop :=
  (∀ (c : CalStore) (b : BandName),
    let factor : Nat := match b with
      | .day => c.factorDay
      | .dusk => c.factorDusk
      | .night => c.factorNight
    c.master b = min 1023 (c.curve[c.wheelIndex] * factor / 256) ∧ c.master b ≤ 1023) ∧
  ∀ (s : State) (m : LinkMsg) (rest : List LinkMsg),
    (s.Takes kindCurveWrite lenCurveWrite m rest → parseCurveWrite m.payload = none →
      exec .curveWrite s = .next { s with link := s.link.answered rest m .range [] }) ∧
    (∀ first entries, parseCurveWrite m.payload = some (first, entries) →
      1 ≤ entries.length ∧ first + entries.length ≤ 64 ∧ ∀ x ∈ entries, x ≤ 1023) ∧
    (∀ first entries, s.Takes kindCurveWrite lenCurveWrite m rest → parseCurveWrite m.payload = some (first, entries) →
      ∃ curve : Tab Nat 64,
        (∀ i : Fin 64, curve[i] =
          if first ≤ i.val ∧ i.val < first + entries.length then entries.getD (i.val - first) 0 else s.cal.curve[i]) ∧
        exec .curveWrite s = .next
          { s with cal := { s.cal with curve := curve }, link := s.link.answered rest m .ok [] }) ∧
    (s.Takes kindDimmerSet (lenIs 1) m rest →
      (∀ i : Fin 64, fieldU8 m.payload 0 = i.val →
        exec .dimmerSet s = .next
          { s with cal := { s.cal with wheelIndex := i }, link := s.link.answered rest m .ok [] }) ∧
      (64 ≤ fieldU8 m.payload 0 → exec .dimmerSet s = .next { s with link := s.link.answered rest m .range [] })) ∧
    (s.Takes kindBandFactors (lenIs 6) m rest →
      (fieldU16 m.payload 0 ≤ 256 → fieldU16 m.payload 2 ≤ 256 → fieldU16 m.payload 4 ≤ 256 →
        exec .bandFactors s = .next
          { s with
            cal := { s.cal with
                     factorDay := fieldU16 m.payload 0
                     factorDusk := fieldU16 m.payload 2
                     factorNight := fieldU16 m.payload 4 }
            link := s.link.answered rest m .ok [] }) ∧
      (256 < fieldU16 m.payload 0 ∨ 256 < fieldU16 m.payload 2 ∨ 256 < fieldU16 m.payload 4 →
        exec .bandFactors s = .next { s with link := s.link.answered rest m .range [] }))

/-! ### Players (05) -/

/-- O31. PLAYER_SETUP, with checks 1 to 4 passed. AT_WRAP on a player in ARMED, RUNNING, PAUSED or TAIL stages the settings and
changes nothing else of the player (R94). Otherwise they are in force at once, nothing is staged, and E, the state, the flag and
the window are those of R92 and R93. The reply is REPLACED where settings were staged, else OK. A set of settings out of range is
RANGE; a FREE track, or no track for a player that is not IDLE, is STATE; a hold point that the track does not have is RANGE.
Log 37, the model's choice: a track, hold-point or end-notice flag other than 0 or 1 fails check 1, before STATE is judged. -/
def Obligations.PlayerSetupAppliesOrStages : Prop :=
  (∀ (s : State) (m : LinkMsg) (rest : List LinkMsg) (a : PlayerSetupArgs),
      s.Takes kindPlayerSetup (lenIs 17) m rest → parsePlayerSetup m.payload = some a →
      (∀ k, a.settings.track = some k → s.pattern.tracks[k] ≠ none) →
      (a.settings.track = none → s.players[a.player].state = .idle) →
      (∀ i, a.settings.holdPoint = some i →
        ∃ k t, a.settings.track = some k ∧ s.pattern.tracks[k] = some t ∧ i + 1 ≤ t.count) →
      let x := s.players[a.player]
      let d := s.pattern.durationOf a.settings
      let u := if a.settings.mode = .loop then a.settings.loops * d else d
      let endless := a.settings.mode = .loop ∧ a.settings.loops = 0
      let later := x.state = .armed ∨ x.state = .running ∨ x.state = .paused ∨ x.state = .tail
      let done (y : Player) (fields : List Byte) : Host.Outcome State Fault Refusal :=
        .next
          { s with
            players := s.players.put a.player y
            link := s.link.answered rest m (if x.staged = none then .ok else .replaced) fields }
      (a.atWrap = true → later → exec .playerSetup s = done { x with staged := some a.settings } [1]) ∧
      (a.atWrap = false ∨ ¬later → ∃ y : Player,
        exec .playerSetup s = done y
          [0, BitVec.ofNat 8 y.state.code, BitVec.ofNat 8 (y.elapsed / 16777216), BitVec.ofNat 8 (y.elapsed / 65536),
            BitVec.ofNat 8 (y.elapsed / 256), BitVec.ofNat 8 y.elapsed] ∧
        y.settings = a.settings ∧ y.staged = none ∧
        (x.state = .idle ∨ x.state = .ended ∨ x.state = .holding →
          y.elapsed = x.elapsed ∧ y.holdPassed = x.holdPassed ∧ y.windowLeft = x.windowLeft) ∧
        (x.state = .idle → y.state = .idle) ∧ (x.state = .ended → y.state = .ended) ∧
        (x.state = .holding → y.state = if a.settings.mode = .holdLast then .holding else .ended) ∧
        (x.state = .armed → y.state = .armed ∧ y.elapsed = 0 ∧ y.holdPassed = false ∧ y.windowLeft = none) ∧
        (x.state = .running ∨ x.state = .tail ∨ x.state = .paused →
          y.elapsed = if endless then x.elapsed % (d * 256) else min x.elapsed (u * 256)) ∧
        (x.state = .running ∨ x.state = .tail → y.windowLeft = none ∧
          y.state = (if endless ∨ x.elapsed < u * 256 then .running else .tail) ∧
          (y.holdPassed = true ↔
            ¬endless ∧ a.settings.policy = .extend ∧ s.pattern.holdTimeOf a.settings * 256 ≤ x.elapsed)) ∧
        (x.state = .paused → y.state = .paused ∧ y.holdPassed = x.holdPassed ∧ y.windowLeft = x.windowLeft))) ∧
  (∀ (s : State) (m : LinkMsg) (rest : List LinkMsg), s.Takes kindPlayerSetup (lenIs 17) m rest →
      let refused (status : Status) : Prop :=
        exec .playerSetup s = .next { s with link := s.link.answered rest m status [] }
      (parsePlayerSetup m.payload = none → refused .range) ∧
      ∀ a, parsePlayerSetup m.payload = some a →
        (∀ k, a.settings.track = some k → s.pattern.tracks[k] = none → refused .state) ∧
        (a.settings.track = none → s.players[a.player].state ≠ .idle → refused .state) ∧
        (∀ i, a.settings.holdPoint = some i → a.settings.track = none → s.players[a.player].state = .idle →
          refused .range) ∧
        (∀ i k t, a.settings.holdPoint = some i → a.settings.track = some k → s.pattern.tracks[k] = some t →
          t.count < i + 1 → refused .range))

/-- O32. PLAYER_START with nothing staged, by state and policy: the table of R87, and the outcome of R88. A player that names no
track is refused with STATE, and a player number outside 0..15 with RANGE. A start that sets E to 0 takes staged settings first,
and posts STAGED_APPLIED with START, with E as R93 leaves it under the new settings, before the reply when the new settings enable
it. -/
def Obligations.StartActsByStateAndPolicy : Prop :=
  (∀ (s : State) (m : LinkMsg) (rest : List LinkMsg), s.Takes kindPlayerStart (lenIs 1) m rest →
      16 ≤ fieldU8 m.payload 0 →
      exec .playerStart s = .next { s with link := s.link.answered rest m .range [] }) ∧
  (∀ (s : State) (m : LinkMsg) (rest : List LinkMsg) (p : PlayerId),
      s.Takes kindPlayerStart (lenIs 1) m rest → fieldU8 m.payload 0 = p.val →
      let x := s.players[p]
      let h := s.pattern.holdTimeOf x.settings * 256
      let started (y : Player) (outcome : Byte) : Prop :=
        exec .playerStart s = .next
          { s with
            players := s.players.put p y
            link := s.link.answered rest m .ok
              [outcome, BitVec.ofNat 8 y.state.code, BitVec.ofNat 8 (y.elapsed / 16777216),
                BitVec.ofNat 8 (y.elapsed / 65536), BitVec.ofNat 8 (y.elapsed / 256), BitVec.ofNat 8 y.elapsed] }
      let anew : Player := { x with state := .running, elapsed := 0, holdPassed := false, windowLeft := none }
      let held : Player := { x with state := .paused, elapsed := h, windowLeft := some x.settings.window }
      (x.settings.track = none → exec .playerStart s = .next { s with link := s.link.answered rest m .state [] }) ∧
      (x.settings.track ≠ none → x.staged = none →
        (x.state = .idle ∨ x.state = .armed ∨ x.state = .ended ∨ x.state = .holding → started anew 0) ∧
        (x.state = .running ∨ x.state = .paused ∨ x.state = .tail →
          (x.settings.policy = .replay → started anew 1) ∧ (x.settings.policy = .ignore → started x 3)) ∧
        (x.settings.policy = .extend →
          (x.state = .running → x.holdPassed = false → started x 3) ∧
          (x.state = .running → x.holdPassed = true → started held 2) ∧
          (x.state = .tail → started held 2) ∧
          (x.state = .paused → started { x with windowLeft := some x.settings.window } 2)))) ∧
  (∀ (s : State) (m : LinkMsg) (rest : List LinkMsg) (p : PlayerId) (st : Settings),
      s.Takes kindPlayerStart (lenIs 1) m rest → fieldU8 m.payload 0 = p.val →
      s.players[p].settings.track ≠ none → s.players[p].staged = some st →
      (s.players[p].state = .armed ∨
        s.players[p].settings.policy = .replay ∧
          (s.players[p].state = .running ∨ s.players[p].state = .paused ∨ s.players[p].state = .tail)) →
      let d := s.pattern.durationOf st
      let u := if st.mode = .loop then st.loops * d else d
      let e := if s.players[p].state = .armed then 0
        else if st.mode = .loop ∧ st.loops = 0 then s.players[p].elapsed % (d * 256)
        else min s.players[p].elapsed (u * 256)
      exec .playerStart s = .next
        { s with
          players := s.players.put p
            { settings := st, state := .running, elapsed := 0, holdPassed := false, windowLeft := none, staged := none }
          link := (if st.endNotice then
              s.link.post .stagedApplied
                [BitVec.ofNat 8 p.val, 3, BitVec.ofNat 8 (e / 16777216), BitVec.ofNat 8 (e / 65536),
                  BitVec.ofNat 8 (e / 256), BitVec.ofNat 8 e]
            else s.link).answered rest m .ok
              [if s.players[p].state = .armed then 0 else 1, BitVec.ofNat 8 PlayerState.running.code, 0, 0, 0, 0] })

/-- O33. PLAYER_ARM and PLAYER_STOP: the states of R89 and R90, with E 0, the flag clear and no window; a busy player is not
armed; a stop leaves the settings and drops the staged ones; a player number outside 0..15 is RANGE. Log 16, the model's choice:
the OK of PLAYER_ARM on an ARMED player carries the state too. -/
def Obligations.ArmAndStopResetTheRun : Prop :=
  (∀ (s : State) (m : LinkMsg) (rest : List LinkMsg), 16 ≤ fieldU8 m.payload 0 →
    (s.Takes kindPlayerArm (lenIs 1) m rest →
      exec .playerArm s = .next { s with link := s.link.answered rest m .range [] }) ∧
    (s.Takes kindPlayerStop (lenIs 1) m rest →
      exec .playerStop s = .next { s with link := s.link.answered rest m .range [] })) ∧
  ∀ (s : State) (m : LinkMsg) (rest : List LinkMsg) (p : PlayerId), fieldU8 m.payload 0 = p.val →
    let x := s.players[p]
    (s.Takes kindPlayerArm (lenIs 1) m rest →
      (x.settings.track = none ∨ x.state = .running ∨ x.state = .paused ∨ x.state = .tail →
        exec .playerArm s = .next { s with link := s.link.answered rest m .state [] }) ∧
      (x.settings.track ≠ none → x.state = .armed →
        exec .playerArm s = .next { s with link := s.link.answered rest m .ok [1] }) ∧
      (x.settings.track ≠ none → x.state = .idle ∨ x.state = .ended ∨ x.state = .holding →
        exec .playerArm s = .next
          { s with
            players := s.players.put p { x with state := .armed, elapsed := 0, holdPassed := false, windowLeft := none }
            link := s.link.answered rest m .ok [1] })) ∧
    (s.Takes kindPlayerStop (lenIs 1) m rest →
      exec .playerStop s = .next
        { s with
          players := s.players.put p
            { x with state := .idle, elapsed := 0, holdPassed := false, windowLeft := none, staged := none }
          link := s.link.answered rest m .ok [BitVec.ofNat 8 x.state.code, if x.staged = none then 0 else 1] })

/-- O34. HOLD_POINT_REACHED and WINDOW_EXPIRY. A RUNNING player under EXTEND whose E reaches the hold time pauses exactly there
for W; a PAUSED player whose window runs out runs on from where it stands. Nothing else of the part changes but that the player's
part of the coming device tick is taken. Log 4. -/
def Obligations.PlayersPauseAtTheHoldPoint : Prop :=
  ∀ (s : State) (p : PlayerId) (t : Track),
    s.power.state = .active ∨ s.power.state = .waking → .player p ∉ s.clocks.taken →
    s.pattern.trackOf s.players[p].settings = some t →
    let x := s.players[p]
    let ticked (y : Player) : Host.Outcome State Fault Refusal :=
      .next
        { s with
          players := s.players.put p y
          clocks := { s.clocks with
                      now := max s.clocks.now s.clocks.deviceDue
                      taken := .player p :: s.clocks.taken } }
    (∀ i, x.state = .running → x.settings.policy = .extend → x.holdPassed = false → x.settings.holdPoint = some i →
      t.times.getD i 0 * 256 ≤ x.elapsed + x.settings.rate →
      exec (.holdPointReached p) s = ticked
        { x with
          state := .paused
          elapsed := t.times.getD i 0 * 256
          windowLeft := some x.settings.window
          holdPassed := true }) ∧
    (x.state = .paused → x.windowLeft = some 1 →
      exec (.windowExpiry p) s = ticked { x with state := .running, windowLeft := none })

/-- O35. WRAP with nothing staged: under endless LOOP E is reduced into the track; under counted LOOP E, having crossed a multiple
of D × 256 below the end point, is kept. Settings that are staged are then taken as R93 applies a setup to the player with that E
(as O31 gives it), and STAGED_APPLIED with WRAP is posted when the new settings enable it. Log 4. Log 36, the model's choice: a
take under counted LOOP that leaves the player in TAIL makes no tail check at that tick. -/
def Obligations.WrapReducesOrKeepsElapsed : Prop :=
  ∀ (s : State) (p : PlayerId) (t : Track),
    s.power.state = .active ∨ s.power.state = .waking → .player p ∉ s.clocks.taken →
    s.pattern.trackOf s.players[p].settings = some t →
    let x := s.players[p]
    let e := x.elapsed + x.settings.rate
    let ticked (y : Player) : Host.Outcome State Fault Refusal :=
      .next
        { s with
          players := s.players.put p y
          clocks := { s.clocks with
                      now := max s.clocks.now s.clocks.deviceDue
                      taken := .player p :: s.clocks.taken } }
    let taken (e : Nat) (st : Settings) : Host.Outcome State Fault Refusal :=
      let y := Player.applied { x with elapsed := e } st s.pattern
      .next
        { s with
          players := s.players.put p y
          link := if st.endNotice then
              s.link.post .stagedApplied
                [BitVec.ofNat 8 p.val, 0, BitVec.ofNat 8 (y.elapsed / 16777216), BitVec.ofNat 8 (y.elapsed / 65536),
                  BitVec.ofNat 8 (y.elapsed / 256), BitVec.ofNat 8 y.elapsed]
            else s.link
          clocks := { s.clocks with
                      now := max s.clocks.now s.clocks.deviceDue
                      taken := .player p :: s.clocks.taken } }
    let crossed := ∃ k, 1 ≤ k ∧ k < x.settings.loops ∧ x.elapsed < k * t.duration * 256 ∧ k * t.duration * 256 ≤ e
    x.state = .running → x.settings.mode = .loop → (x.settings.policy = .extend → x.holdPassed = true) →
    (x.staged = none →
      (x.settings.loops = 0 → t.duration * 256 ≤ e →
        exec (.wrap p) s = ticked { x with elapsed := e % (t.duration * 256) }) ∧
      (crossed → e < x.settings.loops * t.duration * 256 → exec (.wrap p) s = ticked { x with elapsed := e })) ∧
    ∀ st, x.staged = some st →
      (x.settings.loops = 0 → t.duration * 256 ≤ e → exec (.wrap p) s = taken (e % (t.duration * 256)) st) ∧
      (crossed → exec (.wrap p) s = taken e st)

/-- O36. TAIL_ENTRY and TAIL_RUN_OUT. With nothing staged, a RUNNING player whose E reaches its end point U enters TAIL, and E is
not cut back. A player whose E, after it moves, reaches U plus the tail enters ENDED or HOLDING and keeps E; PLAYER_END is posted
as the end-notice enable says, and where no binding answers the player's end nothing else changes; where bindings answer it,
they act before or after the notice. Staged settings are taken at TAIL_ENTRY as R93 applies a setup to the player in TAIL (as O31
gives it), and with a tail of 0 in them the player ends at that tick; at END, after PLAYER_END, they are taken as R92 applies one,
before a binding acts (log 34); STAGED_APPLIED then names the take point. Logs 4 and 15. Log 13, the model's choice: a player in
TAIL is judged against its end point and its tail after E has moved, so one that the move carries past a grown end ends there. -/
def Obligations.TailRunsOutIntoTheEndState : Prop :=
  ∀ (s : State) (p : PlayerId) (k : TrackId) (t : Track) (ch : Choices),
    s.power.state = .active ∨ s.power.state = .waking → .player p ∉ s.clocks.taken →
    s.players[p].settings.track = some k → s.pattern.tracks[k] = some t →
    let x := s.players[p]
    let e := x.elapsed + x.settings.rate
    let u := if x.settings.mode = .loop then x.settings.loops * t.duration else t.duration
    let final : PlayerState := if x.settings.mode = .holdLast then .holding else .ended
    let moved (y : Player) (link : LinkState) : State :=
      { s with
        players := s.players.put p y
        link := link
        clocks := { s.clocks with
                    now := max s.clocks.now s.clocks.deviceDue
                    taken := .player p :: s.clocks.taken } }
    let ticked (y : Player) (link : LinkState) : Host.Outcome State Fault Refusal := .next (moved y link)
    let bytes (e : Nat) : List Byte :=
      [BitVec.ofNat 8 (e / 16777216), BitVec.ofNat 8 (e / 65536), BitVec.ofNat 8 (e / 256), BitVec.ofNat 8 e]
    let tells (link : LinkState) : LinkState :=
      if x.settings.endNotice then
        link.post .playerEnd
          ([BitVec.ofNat 8 p.val, BitVec.ofNat 8 k.val, if final = .holding then 1 else 0] ++ bytes e)
      else link
    let told := tells s.link
    let acted (eventFirst : Bool) (y : Player) (before : LinkState) (tells : LinkState → LinkState) : State :=
      if eventFirst then
        { ((moved y before).applyEvent (sourcePlayerEnd p)) with
          link := tells ((moved y before).applyEvent (sourcePlayerEnd p)).link }
      else (moved y (tells before)).applyEvent (sourcePlayerEnd p)
    let took (st : Settings) (point : Byte) (e : Nat) (link : LinkState) : LinkState :=
      if st.endNotice then link.post .stagedApplied ([BitVec.ofNat 8 p.val, point] ++ bytes e) else link
    (x.settings.mode = .loop → x.settings.loops ≠ 0) → (x.settings.policy = .extend → x.holdPassed = true) →
    (x.staged = none →
      (x.state = .running → u * 256 ≤ e → e < (u + x.settings.tail) * 256 →
        exec (.tailEntry p ch) s = ticked { x with state := .tail, elapsed := e } s.link) ∧
      (x.state = .running ∨ x.state = .tail → (u + x.settings.tail) * 256 ≤ e →
        (∀ i : BindingId, s.answering (sourcePlayerEnd p) i = none) →
        exec (.tailRunOut p ch) s = ticked { x with state := final, elapsed := e } told) ∧
      (x.state = .running ∨ x.state = .tail → (u + x.settings.tail) * 256 ≤ e →
        exec (.tailRunOut p ch) s =
          .next (acted ch.triggerFirst { x with state := final, elapsed := e } s.link tells)) ∧
      (x.state = .running → (u + x.settings.tail) * 256 ≤ e →
        exec (.tailEntry p ch) s = exec (.tailRunOut p ch) s)) ∧
    ∀ st, x.staged = some st →
      (x.state = .running → u * 256 ≤ e →
        (x.settings.mode = .loop → (x.settings.loops - 1) * t.duration * 256 ≤ x.elapsed) →
        let y := Player.applied { x with state := .tail, elapsed := e } st s.pattern
        y.state = .running ∨ y.state = .tail ∧ st.tail ≠ 0 →
        exec (.tailEntry p ch) s = ticked y (took st 1 y.elapsed s.link)) ∧
      (x.state = .running → u * 256 ≤ e →
        (x.settings.mode = .loop → (x.settings.loops - 1) * t.duration * 256 ≤ x.elapsed) →
        let y := Player.applied { x with state := .tail, elapsed := e } st s.pattern
        y.state = .tail → st.tail = 0 →
        let z : Player := { y with state := if st.mode = .holdLast then .holding else .ended }
        exec (.tailEntry p ch) s = .next
          (acted ch.triggerFirst z (took st 1 y.elapsed s.link) fun link =>
            if st.endNotice then
              link.post .playerEnd
                ([BitVec.ofNat 8 p.val, BitVec.ofNat 8 (st.track.elim 0 Fin.val), if z.state = .holding then 1 else 0] ++
                  bytes y.elapsed)
            else link)) ∧
      (x.state = .tail → (u + x.settings.tail) * 256 ≤ e →
        exec (.tailRunOut p ch) s = .next
          (acted (ch.triggerFirst && !st.endNotice)
            { x with
              settings := st
              staged := none
              elapsed := e
              state := if final = .holding ∧ st.mode = .holdLast then .holding else .ended }
            s.link fun link => took st 2 e (tells link))) ∧
      (x.state = .tail → (u + x.settings.tail) * 256 ≤ e →
        (∀ i : BindingId, s.answering (sourcePlayerEnd p) i = none) →
        exec (.tailRunOut p ch) s = ticked
          { x with
            settings := st
            staged := none
            elapsed := e
            state := if final = .holding ∧ st.mode = .holdLast then .holding else .ended }
          (took st 2 e told))

/-! ### Bindings, lines and the thumbwheel (06) -/

/-- O37. LINE_SETUP, BIND and UNBIND write one record and answer OK with the filtered level, or with the state the binding
had; nothing else changes. A field out of range is RANGE and writes nothing. -/
def Obligations.InputCommandsWriteOneRecord : Prop :=
  ∀ (s : State) (m : LinkMsg) (rest : List LinkMsg),
    let outOfRange : Host.Outcome State Fault Refusal := .next { s with link := s.link.answered rest m .range [] }
    (s.Takes kindLineSetup (lenIs 4) m rest → parseLineSetup m.payload = none → exec .lineSetup s = outOfRange) ∧
    (s.Takes kindBind (lenIs 5) m rest → parseBind m.payload = none → exec .bind s = outOfRange) ∧
    (s.Takes kindUnbind (lenIs 1) m rest → 32 ≤ fieldU8 m.payload 0 → exec .unbind s = outOfRange) ∧
    (∀ a, s.Takes kindLineSetup (lenIs 4) m rest → parseLineSetup m.payload = some a →
      exec .lineSetup s = .next
        { s with
          lines := s.lines.put a.line ⟨a.mode, a.filter, a.wake, s.lines[a.line].level, 0⟩
          link := s.link.answered rest m .ok
            (match s.lines[a.line].level with
             | none => [0]
             | some v => [1, if v then 1 else 0]) }) ∧
    (∀ i b, s.Takes kindBind (lenIs 5) m rest → parseBind m.payload = some (i, b) →
      exec .bind s = .next
        { s with
          bindings := s.bindings.put i (some b)
          link := s.link.answered rest m .ok [if s.bindings[i] = none then 0 else 1] }) ∧
    (∀ i : BindingId, s.Takes kindUnbind (lenIs 1) m rest → fieldU8 m.payload 0 = i.val →
      exec .unbind s = .next
        { s with bindings := s.bindings.put i none, link := s.link.answered rest m .ok [] })

/-- O38. EVENT_INJECT, completed for every host event: the bindings that are enabled and name HOST_EVENT e are handed it one after
another in ascending index, and the reply, after them, counts the actions taken and skipped; an event number outside 0..15 is
RANGE. What a binding does: START, ARM and STOP on the player as PLAYER_START, PLAYER_ARM and PLAYER_STOP do (O32, O33), SHOW and
HIDE on the layer by R51 and R52; or TRIGGER_SKIPPED, with NO_TRACK, PLAYER_BUSY or LAYER_FREE, and nothing else. Every other
event is applied in the same way. With no binding that answers nothing changes; one that answers alone is written out. -/
def Obligations.InjectedEventsReachTheBindings : Prop :=
  (∀ (s : State) (m : LinkMsg) (rest : List LinkMsg), s.Takes kindEventInject (lenIs 1) m rest →
    (16 ≤ fieldU8 m.payload 0 → exec .eventInject s = .next { s with link := s.link.answered rest m .range [] }) ∧
    ∀ e : Fin 16, fieldU8 m.payload 0 = e.val →
      let r := State.handAll { s with link := { s.link with buffer := rest } } ⟨0, 0⟩ ⟨38 + e.val, by omega⟩ (List.finRange 32)
      exec .eventInject s = .next
        { r.1 with
          link := r.1.link.answered rest m .ok [BitVec.ofNat 8 r.2.taken, BitVec.ofNat 8 r.2.skipped] }) ∧
  (∀ (s : State) (src : SourceId), s.applyEvent src = (s.handAll ⟨0, 0⟩ src (List.finRange 32)).1) ∧
  (∀ (s : State) (n : Tally) (src : SourceId), s.handAll n src [] = (s, n)) ∧
  (∀ (s : State) (n : Tally) (src : SourceId) (i : BindingId) (is : List BindingId),
    (∀ b, s.bindings[i] = some b → b.enabled = true → b.source = src →
      s.handAll n src (i :: is) = (s.handBinding n i b).1.handAll (s.handBinding n i b).2 src is) ∧
    ((∀ b, s.bindings[i] = some b → b.enabled = true → b.source ≠ src) →
      s.handAll n src (i :: is) = s.handAll n src is)) ∧
  (∀ (s : State) (n : Tally) (i : BindingId) (b : Binding),
    let took (t : State) : State × Tally := (t, ⟨n.taken + 1, n.skipped⟩)
    let skip (action target : Nat) (cause : Byte) : State × Tally :=
      ({ s with
         link := s.link.post .triggerSkipped
           [BitVec.ofNat 8 i.val, BitVec.ofNat 8 b.source.val, BitVec.ofNat 8 action, BitVec.ofNat 8 target, cause] },
       ⟨n.taken, n.skipped + 1⟩)
    (∀ p, b.action = .start p →
      let x := s.players[p]
      s.handBinding n i b =
        if x.settings.track = none then skip 0 p.val 0
        else took
          { s with
            players := s.players.put p (x.start p s.pattern).1
            link := s.link.posted (x.start p s.pattern).2.2 }) ∧
    (∀ p, b.action = .arm p →
      let x := s.players[p]
      s.handBinding n i b =
        if x.settings.track = none then skip 1 p.val 0
        else if x.state = .running ∨ x.state = .paused ∨ x.state = .tail then skip 1 p.val 1
        else if x.state = .armed then took s
        else took
          { s with
            players := s.players.put p
              { x with state := .armed, elapsed := 0, holdPassed := false, windowLeft := none } }) ∧
    (∀ p, b.action = .stop p →
      let x := s.players[p]
      s.handBinding n i b =
        if x.settings.track = none then skip 2 p.val 0
        else took
          { s with
            players := s.players.put p
              { x with state := .idle, elapsed := 0, holdPassed := false, windowLeft := none, staged := none } }) ∧
    (∀ l, b.action = .show l →
      (s.layers[l] = none → s.handBinding n i b = skip 3 l.val 2) ∧
      ∀ x, s.layers[l] = some x →
        s.handBinding n i b = took
          { s with
            layers := s.layers.put l (some
              (match x.state with
               | .parked => { x with state := .rising, pos := 0 }
               | .falling => { x with state := .rising }
               | .rising => x
               | .steady => x)) }) ∧
    (∀ l, b.action = .hide l →
      (s.layers[l] = none → s.handBinding n i b = skip 4 l.val 2) ∧
      ∀ x, s.layers[l] = some x →
        s.handBinding n i b = took
          { s with
            layers := s.layers.put l (some
              (match x.state with
               | .rising => { x with state := .falling }
               | .steady => { x with state := .falling }
               | .falling => x
               | .parked => x)) })) ∧
  ∀ (s : State) (m : LinkMsg) (rest : List LinkMsg) (e : Fin 16),
    s.Takes kindEventInject (lenIs 1) m rest → fieldU8 m.payload 0 = e.val →
    ((∀ i : BindingId, s.answering (sourceHostEvent e) i = none) →
      exec .eventInject s = .next { s with link := s.link.answered rest m .ok [0, 0] }) ∧
    (∀ (i : BindingId) (l : LayerId) (x : LayerRec),
      (∀ j : BindingId, j ≠ i → s.answering (sourceHostEvent e) j = none) →
      s.bindings[i] = some ⟨true, sourceHostEvent e, .show l⟩ →
      (s.layers[l] = some x →
        exec .eventInject s = .next
          { s with
            layers := s.layers.put l (some
              (match x.state with
               | .parked => { x with state := .rising, pos := 0 }
               | .falling => { x with state := .rising }
               | .rising => x
               | .steady => x))
            link := s.link.answered rest m .ok [1, 0] }) ∧
      (s.layers[l] = none →
        exec .eventInject s = .next
          { s with
            link := (s.link.post .triggerSkipped
              [BitVec.ofNat 8 i.val, BitVec.ofNat 8 (38 + e.val), 3, BitVec.ofNat 8 l.val, 2]).answered rest m .ok
                [0, 1] }))

/-- O39. LINE_EDGE: a line at its last sample before its filter's count changes its filtered level. The event, where its mode
makes one, is applied in ACTIVE and SLEEPING; in WAKING and STANDBY a wake-enabled line's is held once, and starts WAKING from
STANDBY, and any other is dropped. A device tick whose edge starts WAKING moves and samples nothing else but the other lines: each
other part of it is marked taken. Logs 4 and 31. -/
def Obligations.LineEdgesByPowerState : Prop :=
  ∀ (s : State) (i : LineId) (v : Bool),
    .line i ∉ s.clocks.taken → s.lines[i].level = some v → s.lines[i].filter ≤ s.lines[i].changes + 1 →
    let rising := !v
    let makes := s.lines[i].mode = .both ∨ s.lines[i].mode = (if rising then .rise else .fall)
    let held := (s.power.events.any fun e => decide (e.line = i)) = true
    let sampled : State :=
      { s with
        lines := s.lines.put i { s.lines[i] with level := some rising, changes := 0 }
        clocks := { s.clocks with now := max s.clocks.now s.clocks.deviceDue, taken := .line i :: s.clocks.taken } }
    (¬makes → exec (.lineEdge i) s = .next sampled) ∧
    (makes → s.power.state = .active ∨ s.power.state = .sleeping →
      exec (.lineEdge i) s = .next (sampled.applyEvent (LineEvent.source ⟨i, rising⟩))) ∧
    (makes → s.power.state = .waking ∨ s.power.state = .standby → s.lines[i].wake = false →
      exec (.lineEdge i) s = .next sampled) ∧
    (makes → s.power.state = .waking → s.lines[i].wake = true →
      exec (.lineEdge i) s = .next
        { sampled with
          power := { s.power with events := if held then s.power.events else s.power.events ++ [⟨i, rising⟩] } }) ∧
    (makes → s.power.state = .standby → s.lines[i].wake = true →
      exec (.lineEdge i) s = .next
        { sampled with
          power := ⟨.waking, some (.line i), 0, if held then s.power.events else s.power.events ++ [⟨i, rising⟩]⟩
          clocks := { sampled.clocks with taken := besidesLines ++ sampled.clocks.taken } }) ∧
    ∀ part : TickPart, part ∈ besidesLines ↔ (∀ j, part ≠ .line j) ∧ ∀ c, part ≠ .channel c

/-- O40. DETENT: four transitions in one direction move the wheel index by 1, with the turn event first when the direction changed,
then WHEEL_STEP; at a limit only the wheel's last pair and count change. Log 4. -/
def Obligations.DetentsMoveTheIndex : Prop :=
  ∀ (s : State) (pair last : BitVec 2),
    s.power.state ≠ .standby → .wheel ∉ s.clocks.taken → s.wheel.lastPair = some last → s.wheel.resync = false →
    let sampled : State :=
      { s with
        wheel := { s.wheel with lastPair := some pair, transitions := 0 }
        clocks := { s.clocks with now := max s.clocks.now s.clocks.deviceDue, taken := .wheel :: s.clocks.taken } }
    let moved (i : Fin 64) (d : WheelDir) (turn : SourceId) : State :=
      let t : State :=
        { sampled with cal := { s.cal with wheelIndex := i }, wheel := { sampled.wheel with lastDir := some d } }
      (if s.wheel.lastDir = none ∨ s.wheel.lastDir = some d then t else t.applyEvent turn).applyEvent sourceWheelStep
    (turnOf last pair = .up → s.wheel.transitions = 3 →
      (∀ i : Fin 64, i.val = s.cal.wheelIndex.val + 1 → exec (.detent pair) s = .next (moved i .up 17)) ∧
      (s.cal.wheelIndex = 63 → exec (.detent pair) s = .next sampled)) ∧
    (turnOf last pair = .down → s.wheel.transitions = -3 →
      (∀ i : Fin 64, i.val + 1 = s.cal.wheelIndex.val → exec (.detent pair) s = .next (moved i .down 18)) ∧
      (s.cal.wheelIndex = 0 → exec (.detent pair) s = .next sampled)) ∧
    (turnOf 0 1, turnOf 1 3, turnOf 3 2, turnOf 2 0) = (.up, .up, .up, .up) ∧
    (turnOf 1 0, turnOf 3 1, turnOf 2 3, turnOf 0 2) = (.down, .down, .down, .down)

/-! ### Lanes and the compose engine (01, 08) -/

/-- O41. LANE_SETUP: the five geometry fields are written, and with a new node count the buffers, the last sent duties, the hold
set, the fault map and the poll index start anew; each failed check of R5 gives its status, in its order, a field out of range
RANGE first, and then only the reply is new. -/
def Obligations.LaneSetupWritesTheGeometry : Prop :=
  (∀ (s : State) (m : LinkMsg) (rest : List LinkMsg), s.Takes kindLaneSetup (lenIs 7) m rest →
    parseLaneSetup m.payload = none → exec .laneSetup s = .next { s with link := s.link.answered rest m .range [] }) ∧
  ∀ (s : State) (m : LinkMsg) (rest : List LinkMsg) (a : LaneSetupArgs),
    s.Takes kindLaneSetup (lenIs 7) m rest → parseLaneSetup m.payload = some a →
    let x := s.lanes[a.lane]
    let others := ((List.finRange 4).filter (· ≠ a.lane)).map fun k => s.lanes[k].nodeCount
    let idle := x.state = .disabled ∧ (∀ r ∈ s.engine.queue, r.lane ≠ a.lane) ∧ ∀ j ∈ s.engine.job, j.lane ≠ a.lane
    let pool := a.count + others.sum ≤ 256
    let covered := ∀ z : ZoneId, s.zones[z].defined = true → s.zones[z].lane = a.lane →
      s.zones[z].first + s.zones[z].count ≤ a.count
    let fits := frameTime a.rate a.count ≤ if a.timing = .solo then a.solo else s.clocks.groupPeriod
    let refused (status : Status) : Prop := exec .laneSetup s = .next { s with link := s.link.answered rest m status [] }
    (idle → pool → covered → fits → ∃ y : Lane,
      exec .laneSetup s = .next { s with lanes := s.lanes.put a.lane y, link := s.link.answered rest m .ok [] } ∧
      (a.count = x.nodeCount →
        y = { x with bitRate := a.rate, timing := a.timing, latency := a.latency, soloPeriod := a.solo }) ∧
      (a.count ≠ x.nodeCount →
        y = { x with
              nodeCount := a.count
              bitRate := a.rate
              timing := a.timing
              latency := a.latency
              soloPeriod := a.solo
              front := List.replicate a.count (.colour ⟨0, 0, 0⟩)
              back := List.replicate a.count (.colour ⟨0, 0, 0⟩)
              lastSent := List.replicate a.count none
              holdSet := []
              faults := List.replicate a.count 0
              poll := 0 })) ∧
    (¬idle → refused .state) ∧ (idle → ¬pool → refused .nodePool) ∧ (idle → pool → ¬covered → refused .inUse) ∧
    (idle → pool → covered → ¬fits → refused .timing)

/-- O42. LANE_ENABLE: the lane enters STARTING, or PAUSED while the supply sags, with nothing last sent; a BUFFERED lane that starts
asks for a job, which starts at once on an idle engine and waits at the end of the queue otherwise. Its three refusals with STATE
change nothing else. A lane number outside 0..3 is RANGE. -/
def Obligations.LaneEnableStartsOrPauses : Prop :=
  (∀ (s : State) (m : LinkMsg) (rest : List LinkMsg), s.Takes kindLaneEnable (lenIs 1) m rest →
    4 ≤ fieldU8 m.payload 0 → exec .laneEnable s = .next { s with link := s.link.answered rest m .range [] }) ∧
  ∀ (s : State) (m : LinkMsg) (rest : List LinkMsg) (l : LaneId),
    s.Takes kindLaneEnable (lenIs 1) m rest → fieldU8 m.payload 0 = l.val →
    let x := s.lanes[l]
    let free := (∀ r ∈ s.engine.queue, r.lane ≠ l) ∧ ∀ j ∈ s.engine.job, j.lane ≠ l
    let y (entered : LaneState) : Lane :=
      { x with
        state := entered
        lastSent := List.replicate x.nodeCount none
        sentSinceEnable := false
        backReady := false
        scale := if x.latency = .direct then 65536 else x.scale
        soloDue := if x.timing = .solo then some (s.clocks.now + x.soloPeriod) else none
        darkOwed := false }
    let enabled (entered : LaneState) (code : Byte) (e : Engine) : Host.Outcome State Fault Refusal :=
      .next
        { s with
          lanes := s.lanes.put l (y entered)
          engine := e
          link := s.link.answered rest m .ok [code] }
    (x.nodeCount = 0 ∨ x.state ≠ .disabled ∨ ¬free →
      exec .laneEnable s = .next { s with link := s.link.answered rest m .state [] }) ∧
    (x.nodeCount ≠ 0 → x.state = .disabled → free →
      (s.sense.supply.state = .sag → exec .laneEnable s = enabled .paused 3 s.engine) ∧
      (s.sense.supply.state ≠ .sag → x.latency = .direct → exec .laneEnable s = enabled .starting 1 s.engine) ∧
      (s.sense.supply.state ≠ .sag → x.latency = .buffered → ∀ j, s.engine.job = some j →
        exec .laneEnable s = enabled .starting 1 ⟨s.engine.queue ++ [⟨l, false⟩], some j⟩) ∧
      (s.sense.supply.state ≠ .sag → x.latency = .buffered → s.engine = ⟨[], none⟩ →
        ∃ j : Job, exec .laneEnable s = enabled .starting 1 ⟨[], some j⟩ ∧ j.lane = l ∧ j.startedAt = s.clocks.now ∧
          j.nodeCount = x.nodeCount ∧ j.duties = [] ∧ j.holdSet = x.holdSet))

/-- O43. LANE_DISABLE and LANE_DISABLE_COMPLETE. A DISABLED lane is answered OK at once, and so is one that has no frame left to
send, which becomes DISABLED; otherwise the lane is STOPPING, its command stays in dispatch, and with DARK a dark frame begins or
is owed. When its last frame ends, its slots having been sent, it is DISABLED and the command is answered OK. A field out of range
is RANGE. Log 24. -/
def Obligations.LaneDisableWaitsForTheLastFrame : Prop :=
  (∀ (s : State) (m : LinkMsg) (rest : List LinkMsg), s.Takes kindLaneDisable (lenIs 2) m rest →
    parseLaneDisable m.payload = none →
    exec .laneDisable s = .next { s with link := s.link.answered rest m .range [] }) ∧
  (∀ (s : State) (m : LinkMsg) (rest : List LinkMsg) (l : LaneId) (dark : Bool),
    s.Takes kindLaneDisable (lenIs 2) m rest → parseLaneDisable m.payload = some (l, dark) →
    let x := s.lanes[l]
    let waits (y : Lane) : Host.Outcome State Fault Refusal :=
      .next
        { s with
          lanes := s.lanes.put l y
          link := { s.link with buffer := rest, inDispatch := some (.laneDisable m l) } }
    (x.state = .disabled → exec .laneDisable s = .next { s with link := s.link.answered rest m .ok [] }) ∧
    (x.state ≠ .disabled → x.frame = none → dark = false ∨ s.sense.supply.state = .sag →
      exec .laneDisable s = .next
        { s with
          lanes := s.lanes.put l { x with state := .disabled, soloDue := none }
          link := s.link.answered rest m .ok [] }) ∧
    (∀ f, x.state ≠ .disabled → x.frame = some f →
      exec .laneDisable s = waits
        { x with
          state := .stopping
          frame := some { f with closed := true }
          darkOwed := if dark then true else x.darkOwed }) ∧
    (x.state ≠ .disabled → x.frame = none → dark = true → s.sense.supply.state ≠ .sag →
      ∃ (y : Lane) (f : Frame), exec .laneDisable s = waits y ∧ y.state = .stopping ∧ y.frame = some f ∧
        f.beganAt = s.clocks.now ∧ f.slots.length = x.nodeCount ∧
        ∀ p < x.nodeCount, f.slots[p]? = some (some
          (if ∃ r ∈ x.holdSet, r.first ≤ p ∧ p < r.first + r.count then .hold else .colour ⟨0, 0, 0⟩)))) ∧
  ∀ (s : State) (m : LinkMsg) (l : LaneId) (f : Frame) (answer : BitVec 24),
    let x := s.lanes[l]
    x.state = .stopping → x.frame = some f → f.nextSlot = x.nodeCount → x.darkOwed = false →
    s.link.inDispatch = some (.laneDisable m l) →
    ∃ t : State, exec (.laneDisableComplete l answer) s = .next t ∧
      t = { s with
            lanes := s.lanes.put l
              { x with
                state := .disabled
                frame := none
                soloDue := none
                poll := (x.poll + 1) % x.nodeCount
                faults := x.faults.set x.poll (x.faults.getD x.poll 0 ||| answerFlags x.poll answer) }
            link := { s.link with
                      notices := t.link.notices
                      lost := t.link.lost
                      replies := t.link.replies
                      inDispatch := t.link.inDispatch }
            clocks := { s.clocks with now := max s.clocks.now (f.beganAt + frameTime x.bitRate x.nodeCount) } } ∧
      if s.link.replies.length < 8 then
        t.link.inDispatch = none ∧ t.link.replies = s.link.replies ++ [⟨m.tag, m.kind + 0x80, [0x00]⟩]
      else t.link.inDispatch = some (.replyWaiting ⟨m.tag, m.kind + 0x80, [0x00]⟩) ∧ t.link.replies = s.link.replies

/-- O44. The fields of LANE_READ (R152), as they stood before it; a list has a count byte (log 14). LANE_READ arms the underrun
notice, and clears the count when asked; NODE_FAULTS_READ clears the fault map; NODE_HOLD
replaces the hold set; GROUP_PERIOD sets the period; BUDGET_SET sets the budget and the derate factor. Each changes nothing else,
and each that a field out of range refuses changes nothing, as does a GROUP_PERIOD at which a lane would not fit. -/
def Obligations.LaneCommandsWriteTheirFields : Prop :=
  (∀ (s : State) (l : LaneId),
    let b1 (n : Nat) : List Byte := [BitVec.ofNat 8 n]
    let b2 (n : Nat) : List Byte := [BitVec.ofNat 8 (n / 256), BitVec.ofNat 8 n]
    let yes (b : Bool) : List Byte := [if b then 1 else 0]
    let x := s.lanes[l]
    let job : Nat := if ∃ j ∈ s.engine.job, j.lane = l then 2 else if ∃ r ∈ s.engine.queue, r.lane = l then 1 else 0
    s.laneFields l = b1 x.state.code ++ b1 x.nodeCount ++ b1 x.bitRate.code ++ b1 x.timing.code ++ b1 x.latency.code ++
      b2 x.soloPeriod ++ b2 s.clocks.groupPeriod ++ b2 (frameTime x.bitRate x.nodeCount) ++ b1 job ++ yes x.backReady ++
      yes x.sentSinceEnable ++ b2 (x.scale / 65536) ++ b2 x.scale ++ b2 x.budget ++ b2 x.derate ++ b2 x.underruns ++
      yes x.armed ++ (if x.nodeCount = 0 then [] else b1 x.poll) ++ b1 x.holdSet.length ++
      x.holdSet.flatMap fun r => b1 r.first ++ b1 r.count) ∧
  ∀ (s : State) (m : LinkMsg) (rest : List LinkMsg),
    let wrote (l : LaneId) (y : Lane) (fields : List Byte) : Host.Outcome State Fault Refusal :=
      .next { s with lanes := s.lanes.put l y, link := s.link.answered rest m .ok fields }
    let refused (status : Status) : Host.Outcome State Fault Refusal :=
      .next { s with link := s.link.answered rest m status [] }
    (∀ l clear, s.TakesRead kindLaneRead (lenIs 2) m rest → parseLaneRead m.payload = some (l, clear) →
      exec .laneRead s = wrote l
        { s.lanes[l] with armed := true, underruns := if clear then 0 else s.lanes[l].underruns } (s.laneFields l)) ∧
    (∀ l : LaneId, s.TakesRead kindNodeFaultsRead (lenIs 1) m rest → fieldU8 m.payload 0 = l.val →
      exec .nodeFaultsRead s = wrote l
        { s.lanes[l] with faults := List.replicate s.lanes[l].nodeCount 0 }
        (BitVec.ofNat 8 s.lanes[l].nodeCount :: s.lanes[l].faults.map (BitVec.setWidth 8))) ∧
    (∀ l ranges, s.Takes kindNodeHold lenNodeHold m rest → parseNodeHold m.payload = some (l, ranges) →
      ((∀ r ∈ ranges, 1 ≤ r.count ∧ r.first + r.count ≤ s.lanes[l].nodeCount) →
        exec .nodeHold s = wrote l { s.lanes[l] with holdSet := ranges }
          [BitVec.ofNat 8 ((List.range s.lanes[l].nodeCount).countP fun p =>
            ranges.any fun r => decide (r.first ≤ p ∧ p < r.first + r.count))]) ∧
      ((∃ r ∈ ranges, r.count = 0 ∨ s.lanes[l].nodeCount < r.first + r.count) →
        exec .nodeHold s = refused .range)) ∧
    (s.Takes kindGroupPeriod (lenIs 2) m rest →
      let period := fieldU16 m.payload 0
      let inRange := 5000 ≤ period ∧ period ≤ 40000 ∧ period % 100 = 0
      let fits := ∀ l : LaneId, s.lanes[l].timing ≠ .solo → frameTime s.lanes[l].bitRate s.lanes[l].nodeCount ≤ period
      (inRange → fits →
        exec .groupPeriod s = .next
          { s with
            clocks := { s.clocks with groupPeriod := period }
            link := s.link.answered rest m .ok [] }) ∧
      (¬inRange → exec .groupPeriod s = refused .range) ∧ (inRange → ¬fits → exec .groupPeriod s = refused .timing)) ∧
    (∀ l budget derate, s.Takes kindBudgetSet (lenIs 5) m rest → parseBudgetSet m.payload = some (l, budget, derate) →
      exec .budgetSet s = wrote l { s.lanes[l] with budget := budget, derate := derate } []) ∧
    (s.Takes kindBudgetSet (lenIs 5) m rest → parseBudgetSet m.payload = none → exec .budgetSet s = refused .range) ∧
    (s.Takes kindNodeHold lenNodeHold m rest → parseNodeHold m.payload = none → exec .nodeHold s = refused .range) ∧
    (s.TakesRead kindLaneRead (lenIs 2) m rest → parseLaneRead m.payload = none → exec .laneRead s = refused .range) ∧
    (s.TakesRead kindNodeFaultsRead (lenIs 1) m rest → 4 ≤ fieldU8 m.payload 0 →
      exec .nodeFaultsRead s = refused .range)

/-- O45. GROUP_TICK and SOLO_TICK reach their lanes, and do nothing in STANDBY and WAKING; what a tick does to a BUFFERED lane
that is STARTING or RUNNING in ACTIVE: the table of R139, with R140 for an ON_DEMAND lane, the underrun of R141 and R144, and the
pause of R149. In SLEEPING a tick only pauses such a lane in a sag, and a lane in another state does nothing on a tick. Beside
them: when a frame is blanked and what blanking does to a slot (R148), the frame and slot times (R4, R131), and a compose request
(R135). Log 5: the clock. Log 20: the new frame takes the place of one in flight. Log 25: a STARTING lane with no back buffer
ready and no job. -/
def Obligations.RefreshTicksOfBufferedLanes : Prop :=
  ((∀ (s : State) (l : LaneId), s.blanks l = true ↔ s.sense.thermal[l].state = .cutoff ∨ s.sense.supply.state = .high) ∧
    (∀ blanked, blankEntry blanked .hold = .hold) ∧
    ∀ c, blankEntry false (.colour c) = .colour c ∧ blankEntry true (.colour c) = .colour ⟨0, 0, 0⟩) ∧
  (∀ n, frameTime .r400k n = 220 + 100 * n ∧ frameTime .r800k n = 160 + 50 * n ∧ frameTime .r1600k n = 130 + 25 * n) ∧
  (slotTime .r400k = 100 ∧ slotTime .r800k = 50 ∧ slotTime .r1600k = 25) ∧
  (∀ (s : State) (l : LaneId),
    let free := (∀ r ∈ s.engine.queue, r.lane ≠ l) ∧ ∀ j ∈ s.engine.job, j.lane ≠ l
    (¬free → s.request l = s) ∧
    (∀ j, free → s.engine.job = some j →
      s.request l = { s with engine := ⟨s.engine.queue ++ [⟨l, false⟩], some j⟩ }) ∧
    (s.engine = ⟨[], none⟩ → s.request l = { s with engine := ⟨[], some (s.newJob ⟨l, false⟩)⟩ })) ∧
  (∀ (s : State) (l : LaneId),
    let x := s.lanes[l]
    let lit := x.state = .starting ∨ x.state = .running
    (¬lit → s.tickLane l = s) ∧
    (lit → s.power.state = .sleeping → s.sense.supply.state ≠ .sag → s.tickLane l = s) ∧
    (lit → s.power.state = .sleeping ∨ s.power.state = .active → s.sense.supply.state = .sag →
      s.tickLane l =
        { s with
          lanes := s.lanes.put l
            { x with
              state := .paused
              frame := x.frame.map fun f => { f with closed := true }
              darkOwed := false } })) ∧
  (∀ s : State,
    let ticked : State :=
      { s with
        clocks := { s.clocks with
                    now := max s.clocks.now s.clocks.groupDue
                    groupDue := s.clocks.groupDue + s.clocks.groupPeriod } }
    let tick (l : LaneId) (t : State) : State := if t.lanes[l].timing = .solo then t else t.tickLane l
    exec .groupTick s = .next (tick 3 (tick 2 (tick 1 (tick 0 ticked)))).standbyCheck ∧
      (s.power.state = .standby ∨ s.power.state = .waking → exec .groupTick s = .next ticked)) ∧
  (∀ (s : State) (l : LaneId) (due : Nat), s.lanes[l].soloDue = some due →
    let ticked : State :=
      { s with
        lanes := s.lanes.put l { s.lanes[l] with soloDue := some (due + s.lanes[l].soloPeriod) }
        clocks := { s.clocks with now := max s.clocks.now due } }
    exec (.soloTick l) s = .next (ticked.tickLane l).standbyCheck ∧
      (s.power.state = .standby ∨ s.power.state = .waking → exec (.soloTick l) s = .next ticked)) ∧
  ∀ (s : State) (l : LaneId),
    let x := s.lanes[l]
    let slots := x.back.map (blankEntry (s.blanks l))
    let sent (out : List Entry) : Lane :=
      { x with
        front := out
        lastSent := List.zipWith sentAfter x.lastSent out
        sentSinceEnable := true
        frame := some ⟨s.clocks.now, s.blanks l, false, false, false, x.nodeCount, out.map some⟩ }
    let still := x.timing = .onDemand ∧ x.sentSinceEnable = true ∧ slots = x.front
    s.power.state = .active → x.latency = .buffered → x.state = .starting ∨ x.state = .running →
    (s.sense.supply.state = .sag →
      s.tickLane l =
        { s with
          lanes := s.lanes.put l
            { x with
              state := .paused
              frame := x.frame.map fun f => { f with closed := true }
              darkOwed := false } }) ∧
    (s.sense.supply.state ≠ .sag →
      (x.backReady = true →
        s.tickLane l =
          State.request
            { s with
              lanes := s.lanes.put l
                { (if still then x else sent slots) with backReady := false, state := .running } }
            l) ∧
      (x.backReady = false → s.engine.outstanding l = true → x.state = .running →
        let count := min 65535 (x.underruns + 1)
        s.tickLane l =
          { s with
            lanes := s.lanes.put l
              { (sent (List.replicate x.nodeCount .hold)) with underruns := count, armed := false }
            link := if x.armed then
                s.link.post .underrun [BitVec.ofNat 8 l.val, 0, 0, BitVec.ofNat 8 (count / 256), BitVec.ofNat 8 count]
              else s.link }) ∧
      (x.backReady = false → x.state = .starting → s.tickLane l = s))

/-- O46. What a tick does to a DIRECT lane that is STARTING or RUNNING in ACTIVE with no sag (R142, R143; a sag and SLEEPING:
O45), and DIRECT_SLOT_DUE: the slot carries its entry where the lane has it, or where the job's next node is this one and is ready
at or before the due time, and the job has then reached that node: what its NODE_COMPOSE composes later is what the slot was sent
by, whatever the fault map holds by then (R32, log 39); else HOLD, counted as late unless the job marks the position held; once
the lane takes no further entry of a job, HOLD and nothing counted. Logs 17, 20, 21, 32 and 33. -/
def Obligations.DirectLanesSendSlotsAsTheyCome : Prop :=
  (∀ (s : State) (l : LaneId),
    let x := s.lanes[l]
    let unheld := (List.range x.nodeCount).countP fun p =>
      !(x.holdSet.any fun r => decide (r.first ≤ p ∧ p < r.first + r.count))
    let holds : Lane :=
      { x with
        sentSinceEnable := true
        frame := some ⟨s.clocks.now, s.blanks l, false, false, false, 0, List.replicate x.nodeCount (some .hold)⟩ }
    s.power.state = .active → x.latency = .direct → x.state = .starting ∨ x.state = .running →
    s.sense.supply.state ≠ .sag →
    (s.engine.outstanding l = false →
      s.tickLane l =
        State.request
          { s with
            lanes := s.lanes.put l
              { x with
                state := .running
                sentSinceEnable := true
                frame := some ⟨s.clocks.now, s.blanks l, true, false, false, 0, List.replicate x.nodeCount none⟩ } }
          l) ∧
    (s.engine.outstanding l = true →
      (x.state = .starting ∨ unheld = 0 → s.tickLane l = { s with lanes := s.lanes.put l holds }) ∧
      (x.state = .running → 0 < unheld →
        let first := min 65535 (x.underruns + 1)
        s.tickLane l =
          { s with
            lanes := s.lanes.put l { holds with underruns := min 65535 (x.underruns + unheld), armed := false }
            link := if x.armed then
                s.link.post .underrun [BitVec.ofNat 8 l.val, 1, 1, BitVec.ofNat 8 (first / 256), BitVec.ofNat 8 first]
              else s.link }))) ∧
  ∀ (s : State) (l : LaneId) (f : Frame), s.lanes[l].frame = some f → f.nextSlot < s.lanes[l].nodeCount →
    let x := s.lanes[l]
    let p := f.nextSlot
    let sent (e : Entry) (late : Bool) : Lane :=
      { x with
        front := x.front.set p e
        lastSent := x.lastSent.set p
          (match e with
           | .hold => x.lastSent.getD p none
           | .colour c => some c)
        frame := some { f with nextSlot := p + 1, lateSeen := f.lateSeen || late } }
    let due := f.beganAt + 100 + p * slotTime x.bitRate
    let clocks : Clocks := { s.clocks with now := max s.clocks.now due }
    let coming (j : Job) := j.lane = l ∧ j.stale = false ∧ j.duties.length = p ∧ p < j.nodeCount ∧
      j.readyAt + 2 * (4 + 3 * j.layersAt p) ≤ due
    (f.fed = true → f.closed = true →
      exec (.directSlotDue l) s = .next { s with lanes := s.lanes.put l (sent .hold false), clocks := clocks }) ∧
    (∀ e, f.fed = false ∨ f.closed = false → f.slots.getD p none = some e →
      exec (.directSlotDue l) s = .next
        { s with lanes := s.lanes.put l (sent (blankEntry f.blanked e) false), clocks := clocks }) ∧
    (f.slots.getD p none = none →
      f.closed = true ∨ (s.marksHeld l p = true ∧ (f.fed = false ∨ ∀ j, s.engine.job = some j → ¬coming j)) →
      exec (.directSlotDue l) s = .next { s with lanes := s.lanes.put l (sent .hold false), clocks := clocks }) ∧
    (∀ j, f.fed = true → f.closed = false → f.slots.getD p none = none → s.engine.job = some j → coming j →
      let r := j.reached.getD (j.node s.pattern s.cal.working (x.faults.getD p 0) p)
      let v := r.1
      let e : Entry := if heldIn j.holdSet p then .hold
        else .colour ⟨v.r * j.scaleHeld / 65536, v.g * j.scaleHeld / 65536, v.b * j.scaleHeld / 65536⟩
      exec (.directSlotDue l) s = .next
        { s with
          lanes := s.lanes.put l (sent (blankEntry f.blanked e) false)
          engine := { s.engine with job := some { j with reached := some r } }
          clocks := clocks }) ∧
    (f.slots.getD p none = none → f.closed = false → s.marksHeld l p = false →
      f.fed = false ∨ (∀ j, s.engine.job = some j → ¬coming j) →
      let count := min 65535 (x.underruns + 1)
      exec (.directSlotDue l) s = .next
        { s with
          lanes := s.lanes.put l
            { (sent .hold true) with underruns := count, armed := x.armed && f.lateSeen }
          link := if x.armed && !f.lateSeen then
              s.link.post .underrun
                [BitVec.ofNat 8 l.val, BitVec.ofNat 8 x.latency.code, if x.latency = .buffered then 0 else 1,
                  BitVec.ofNat 8 (count / 256), BitVec.ofNat 8 count]
            else s.link
          clocks := clocks })

/-- O47. RETURN_WINDOW_END, the frame's slots having been sent: the flags of the answer, or NO_REPLY, join the entry at the poll
index, the first flag posts NODE_FAULT, the poll index moves on, and no frame is in flight. On a lane that stays enabled and owes
no dark frame nothing else changes; in SLEEPING the entry to STANDBY is then judged at once (as O51 gives it), also where a dark
frame is owed in a sag. A dark frame that is owed begins, with no sag. An answer that is not well checked, in its echo, in bits 5
to 7 of its flag byte or in its check, gives NO_REPLY. Log 19. -/
def Obligations.ReturnWindowRecordsTheAnswer : Prop :=
  (∀ (s : State) (l : LaneId) (f : Frame) (answer : BitVec 24),
    let x := s.lanes[l]
    let old := x.faults.getD x.poll 0
    let new := old ||| answerFlags x.poll answer
    let past : Lane :=
      { x with frame := none, darkOwed := false, faults := x.faults.set x.poll new, poll := (x.poll + 1) % x.nodeCount }
    let now := max s.clocks.now (f.beganAt + frameTime x.bitRate x.nodeCount)
    let ended (y : Lane) : State :=
      { s with
        lanes := s.lanes.put l y
        link := if old = 0 ∧ new ≠ 0 then
            s.link.post .nodeFault [BitVec.ofNat 8 l.val, BitVec.ofNat 8 x.poll, new.setWidth 8]
          else s.link
        clocks := { s.clocks with now := now } }
    x.frame = some f → f.nextSlot = x.nodeCount →
    (x.state ≠ .stopping → x.darkOwed = false → s.power.state ≠ .sleeping →
      exec (.returnWindowEnd l answer) s = .next (ended past)) ∧
    (x.state ≠ .stopping → x.darkOwed = false ∨ s.sense.supply.state = .sag →
      exec (.returnWindowEnd l answer) s = exec .standbyEntry (ended past)) ∧
    (x.darkOwed = true → s.sense.supply.state ≠ .sag → ∃ (y : Lane) (g : Frame),
      exec (.returnWindowEnd l answer) s = .next (ended y) ∧
      y = { past with
            frame := some g
            front := y.front
            lastSent := y.lastSent
            sentSinceEnable := true
            darkSent := true } ∧
      g.beganAt = now ∧ g.fed = false ∧ g.slots.length = x.nodeCount ∧
      ∀ p < x.nodeCount, g.slots[p]? = some (some
        (if ∃ r ∈ x.holdSet, r.first ≤ p ∧ p < r.first + r.count then .hold else .colour ⟨0, 0, 0⟩)))) ∧
  (∀ echo poll flags check : Byte,
    answerFlags poll.toNat (echo ++ flags ++ check) =
      if echo = poll ∧ flags.toNat < 32 ∧ check.toNat = 255 - (echo.toNat + flags.toNat) % 256 then flags.setWidth 6
      else 0x20) ∧
  ∀ (poll : Byte) (flags : BitVec 5) (check : Byte),
    answerFlags poll.toNat (poll ++ flags.setWidth 8 ++ check) =
      if check.toNat = 255 - (poll.toNat + flags.toNat) % 256 then flags.setWidth 6 else 0x20

/-- O48. What a job reads at its start (R16, R17), and stages S1 to S6 of the colour pipeline: gradients, sweep ranks, the moment
of a track that a node shows and its segment, the weight of a segment, the keyframe held in place of a damaged one, blending,
level, correction, thermal gain and fault policy; a node in no zone is dark. Log 12: the order of the two reads of a segment. The
entries that the job hands over are HOLD where it marked the node held, else the scaled duties. NODE_COMPOSE composes the next
node of the job in progress, with the fault map's entry as it stands then, or as a slot that was due at that moment has found it
(R32, log 39), reporting each mismatch it finds, in its time; COMPOSE_JOB_COMPLETE hands the result to the lane that
takes it, drops it otherwise, and starts the next job; KEYS_WRITE_HELD_APPLY and WORKING_SET_HELD_APPLY are the completion of a
job that holds a write, which is applied and answered (log 24). -/
def Obligations.JobsComposeAndComplete : Prop :=
  (∀ (s : State) (r : Request),
    let x := s.lanes[r.lane]
    s.newJob r =
      { lane := r.lane
        stale := r.stale
        startedAt := s.clocks.now
        readyAt := s.clocks.now
        nodeCount := x.nodeCount
        zones := s.zones
        zoneStacks := (s.newJob r).zoneStacks
        players := Vector.ofFn fun p =>
          ⟨s.players[p].state, s.players[p].elapsed, s.players[p].settings.track, s.players[p].settings.mode,
            s.players[p].settings.loops⟩
        master := s.cal.master s.sense.band.band
        temp := match s.sense.codes[laneChannel r.lane] with
          | none => 25
          | some code => ((code.toNat * 165 / 4095 : Nat) : Int) - 40
        thermal := s.sense.thermal[r.lane].state
        holdSet := x.holdSet
        budget := x.budget
        derate := x.derate
        latency := x.latency
        lastSent := x.lastSent
        scaleHeld := x.scale
        duties := []
        reached := none } ∧
    ∀ z : ZoneId, (s.newJob r).zoneStacks[z] = s.zoneStacks[z].filterMap fun l => s.layers[l]) ∧
  (∀ n k a b : Nat, gradientAt n k a b = if n = 1 then a else (a * (n - 1 - k) + b * k + (n - 1) / 2) / (n - 1)) ∧
  (∀ n k : Nat, sweepRank .linear n k = k ∧ sweepRank .reverse n k = n - 1 - k ∧
    sweepRank .centreOut n k = (if n ≤ 2 * k + 1 then 2 * k + 1 - n else n - 1 - 2 * k) / 2 ∧
    sweepRank .interleaved n k = 4 * (k / 4) + ((k % 4) ^^^ (k / 4 % 4))) ∧
  (∀ (loops d n : Nat) (u : Int),
    (0 < loops → (loops * d * 256 : Nat) ≤ u → pickAt .loop loops d n u = .nothing) ∧
    (loops = 0 ∨ u < (loops * d * 256 : Nat) → pickAt .loop loops d n u = .moment (u / 256 % d).toNat) ∧
    ∀ mode, mode = .once ∨ mode = .holdLast →
      (u < 0 → pickAt mode loops d n u = .single 0) ∧
      (0 ≤ u → u < (d * 256 : Nat) → pickAt mode loops d n u = .moment (u / 256).toNat) ∧
      ((d * 256 : Nat) ≤ u → pickAt mode loops d n u = if mode = .once then .nothing else .single (n - 1))) ∧
  (∀ (times : List Nat) (t i a b : Nat), times.Pairwise (· < ·) → times[i]? = some a → times[i + 1]? = some b → a ≤ t →
    t < b → segmentAt times t = i) ∧
  (∀ t t0 t1 : Nat,
    let q := 4096 * (t - t0) / (t1 - t0)
    easeWeight .step t t0 t1 = 0 ∧ easeWeight .linear t t0 t1 = q ∧
      easeWeight .smooth t t0 t1 = q * q * (12288 - 2 * q) / 16777216) ∧
  (∀ w v0 v1 : Nat, lerp w v0 v1 = (v0 * (4096 - w) + v1 * w + 2048) / 4096) ∧
  (∀ (pm : PatternMemory) (k : TrackId) (t : Track),
    let bad (i : Nat) := (pm.key t i).mismatched = true ∨ i ∈ t.damage
    let finds (i : Nat) : List (TrackId × Nat) := if (pm.key t i).mismatched then [(k, i)] else []
    let shown (i : Nat) (found : List (TrackId × Nat)) : Sampled := ⟨(pm.key t i).colour, (pm.key t i).coverage, found⟩
    (∀ found, pm.heldBelow k t found 0 = ⟨⟨0, 0, 0⟩, 0, found⟩) ∧
    (∀ found d, (bad d → pm.heldBelow k t found (d + 1) = pm.heldBelow k t (found ++ finds d) d) ∧
      (¬bad d → pm.heldBelow k t found (d + 1) = shown d (found ++ finds d))) ∧
    ∀ mode loops u,
      (pickAt mode loops t.duration t.count u = .nothing → pm.sampleTrack k t mode loops u = ⟨⟨0, 0, 0⟩, 0, []⟩) ∧
      (∀ i, pickAt mode loops t.duration t.count u = .single i →
        (¬bad i → pm.sampleTrack k t mode loops u = shown i (finds i)) ∧
        (bad i → pm.sampleTrack k t mode loops u = pm.heldBelow k t (finds i) i)) ∧
      ∀ m, pickAt mode loops t.duration t.count u = .moment m →
        let i := segmentAt t.times m
        let found := finds i ++ finds (i + 1)
        let w := easeWeight (pm.key t i).ease m (t.times.getD i 0) (t.times.getD (i + 1) 0)
        let x := pm.key t i
        let y := pm.key t (i + 1)
        (bad i → pm.sampleTrack k t mode loops u = pm.heldBelow k t found i) ∧
        (¬bad i → bad (i + 1) → pm.sampleTrack k t mode loops u = pm.heldBelow k t found (i + 1)) ∧
        (¬bad i → ¬bad (i + 1) → pm.sampleTrack k t mode loops u =
          ⟨⟨lerp w x.colour.r y.colour.r, lerp w x.colour.g y.colour.g, lerp w x.colour.b y.colour.b⟩,
            lerp w x.coverage y.coverage, found⟩)) ∧
  (∀ (pm : PatternMemory) (players : Tab PlayerSnap 16) (x : LayerRec) (count o : Nat),
    let r := x.range.getD ⟨0, count⟩
    let k := o - r.first
    (∀ a, x.source = .solid a → pm.sampleLayer players x count o = ⟨a, 255, []⟩) ∧
    (∀ a b, x.source = .gradient a b → pm.sampleLayer players x count o =
      ⟨⟨gradientAt r.count k a.r b.r, gradientAt r.count k a.g b.g, gradientAt r.count k a.b b.b⟩, 255, []⟩) ∧
    ∀ p, x.source = .track p →
      let y := players[p]
      let shows := y.state = .running ∨ y.state = .paused ∨ y.state = .tail ∨ y.state = .holding
      (¬shows ∨ y.track = none → pm.sampleLayer players x count o = ⟨⟨0, 0, 0⟩, 0, []⟩) ∧
      ∀ id t, shows → y.track = some id → pm.tracks[id] = some t →
        pm.sampleLayer players x count o = pm.sampleTrack id t y.mode y.loops
          ((y.elapsed : Int) - (sweepRank x.sweep r.count k * x.step * 256 : Nat))) ∧
  (∀ a c acc : Nat, blendOne .replace a c acc = (c * a + acc * (255 - a) + 127) / 255 ∧
    blendOne .add a c acc = min 4095 (acc + (c * a + 127) / 255) ∧
    blendOne .max a c acc = max acc ((c * a + 127) / 255)) ∧
  (∀ (j : Job) (pm : PatternMemory) (working : Tab CalSet 8) (flags : FaultFlags) (p : Nat),
    let covers (z : ZoneId) := j.zones[z].defined = true ∧ j.zones[z].lane = j.lane ∧ j.zones[z].first ≤ p ∧
      p < j.zones[z].first + j.zones[z].count
    ((∀ z, ¬covers z) → j.node pm working flags p = (⟨0, 0, 0⟩, []) ∧ j.layersAt p = 0) ∧
    ∀ z, covers z → (∀ y, covers y → y = z) →
      let x := j.zones[z]
      let c := working[x.set]
      let o := p - x.first
      let layers := j.zoneStacks[z].filter fun y =>
        decide (y.state ≠ .parked ∧ ∀ r ∈ y.range, r.first ≤ o ∧ o < r.first + r.count)
      let acc := layers.foldl (fun (acc : RGB × List (TrackId × Nat)) y =>
        let v := pm.sampleLayer j.players y x.count o
        let a := y.opacity * v.coverage * y.fadeFactor / 65280
        (⟨blendOne y.blend a v.colour.r acc.1.r, blendOne y.blend a v.colour.g acc.1.g,
          blendOne y.blend a v.colour.b acc.1.b⟩, acc.2 ++ v.found)) (⟨0, 0, 0⟩, [])
      let level (v : Nat) := (v * x.trim * j.master + 130432) / 260865
      let row (mr mg mb : Int) : Int :=
        max 0 (min 4095 ((mr * level acc.1.r + mg * level acc.1.g + mb * level acc.1.b + 2048) / 4096))
      let gain (k out : Int) : Int := min 4095 ((out * max 2048 (min 8191 (4096 + k * (j.temp - 25))) + 2048) / 4096)
      j.layersAt p = layers.length ∧
      j.node pm working flags p =
        (if x.policy = .blankFaulty ∧ flags ≠ 0 then ⟨0, 0, 0⟩
         else ⟨(gain c.kR (row c.mRR c.mRG c.mRB)).toNat, (gain c.kG (row c.mGR c.mGG c.mGB)).toNat,
            (gain c.kB (row c.mBR c.mBG c.mBB)).toNat⟩,
          acc.2)) ∧
  (∀ (j : Job) (working : Tab CalSet 8),
    (∀ s p v, j.entry s p v = if (∃ r ∈ j.holdSet, r.first ≤ p ∧ p < r.first + r.count) then .hold
      else .colour ⟨v.r * s / 65536, v.g * s / 65536, v.b * s / 65536⟩) ∧
    (j.entries working).length = j.nodeCount ∧
    ∀ p < j.nodeCount, (j.entries working)[p]? = some (j.entry (j.scale working) p (j.duties.getD p ⟨0, 0, 0⟩))) ∧
  (∀ (x : Lane) (p ready : Nat) (e : Entry),
    (x.frame = none → x.takeEntry p ready e = x) ∧
    ∀ f, x.frame = some f →
      let open' := f.fed = true ∧ f.closed = false ∧ f.nextSlot ≤ p ∧
        ready ≤ f.beganAt + 100 + p * slotTime x.bitRate
      (open' → x.takeEntry p ready e = { x with frame := some { f with slots := f.slots.set p (some e) } }) ∧
      (¬open' → x.takeEntry p ready e = x)) ∧
  (∀ (s : State) (j : Job), s.engine.job = some j → j.duties.length < j.nodeCount →
    let p := j.duties.length
    let r := j.reached.getD (j.node s.pattern s.cal.working (s.lanes[j.lane].faults.getD p 0) p)
    let ready := j.readyAt + 2 * (4 + 3 * j.layersAt p)
    let t := State.reportAll { s with clocks := { s.clocks with now := max s.clocks.now ready } } r.2
    exec .nodeCompose s = .next
      { t with
        engine := { s.engine with job := some { j with duties := j.duties ++ [r.1], readyAt := ready, reached := none } }
        lanes := if j.latency = .buffered ∨ j.stale = true then s.lanes
          else s.lanes.put j.lane (s.lanes[j.lane].takeEntry p ready (j.entry j.scaleHeld p r.1)) }) ∧
  (∀ (s : State) (j : Job), s.engine = ⟨[], some j⟩ → j.nodeCount ≤ j.duties.length → s.power.state ≠ .sleeping →
    let x := s.lanes[j.lane]
    let taken := (x.state = .running ∨ x.state = .starting) ∧ s.power.state = .active
    let done : State :=
      { s with
        engine := ⟨[], none⟩
        lanes := if taken then
            (if j.latency = .buffered then
              s.lanes.put j.lane
                { x with
                  back := j.entries s.cal.working
                  backReady := true
                  scale := j.scale s.cal.working }
             else if j.stale then s.lanes
             else s.lanes.put j.lane { x with scale := j.scale s.cal.working })
          else s.lanes
        clocks := { s.clocks with now := max s.clocks.now j.readyAt } }
    ((∀ m, s.link.inDispatch ≠ some (.heldKeys m)) → (∀ m, s.link.inDispatch ≠ some (.heldSet m)) →
      exec .composeJobComplete s = .next done) ∧
    (∀ m a t, s.link.inDispatch = some (.heldKeys m) → parseKeysWrite m.payload = some a →
      s.pattern.tracks[a.track] = some t →
      exec .keysWriteHeldApply s = .next
        { done with
          pattern := s.pattern.applyKeys a t
          link := s.link.answered s.link.buffer m .ok
            [if (a.track' t).damage ≠ [] ∨ (a.track' t).rewrite ≠ none then 2 else 1,
              BitVec.ofNat 8 ((a.track' t).duration / 256), BitVec.ofNat 8 (a.track' t).duration] }) ∧
    (∀ m w c, s.link.inDispatch = some (.heldSet m) → calTarget s.cal m = some (w, c) →
      exec .workingSetHeldApply s = .next
        { done with
          cal := { s.cal with working := s.cal.working.put w c }
          link := s.link.answered s.link.buffer m .ok [] })) ∧
  ∀ (s : State) (j : Job) (r : Request) (queue : List Request), s.engine = ⟨r :: queue, some j⟩ →
    j.nodeCount ≤ j.duties.length → ∃ t j', exec .composeJobComplete s = .next t ∧ t.engine = ⟨queue, some j'⟩ ∧
      j'.lane = r.lane ∧ j'.duties = [] ∧ j'.nodeCount = s.lanes[r.lane].nodeCount

/-! ### The sense monitor (09) -/

/-- O49. MONITOR_SET writes the settings of one machine, starts its counts again and keeps its state; THERMAL_STATE_CHANGE: the
lane's counts after the sample, the first row of R157 that applies, and THERMAL_STATE. Beside it: every sample of the machine, one
that changes no state with its counts (R155, R156). Log 4. -/
def Obligations.ThermalMachineFollowsItsTable : Prop :=
  (∀ (s : State) (m : LinkMsg) (rest : List LinkMsg), s.Takes kindMonitorSet lenMonitorSet m rest →
    let configured (x : SenseMonitor) : Host.Outcome State Fault Refusal :=
      .next { s with sense := x, link := s.link.answered rest m .ok [] }
    (∀ l d c r p, parseMonitorSet m.payload = some (.thermal l d c r p) →
      exec .monitorSet s = configured
        { s.sense with thermal := s.sense.thermal.put l ⟨d, c, r, p, s.sense.thermal[l].state, 0, 0, 0⟩ }) ∧
    (∀ lo hi p, parseMonitorSet m.payload = some (.supply lo hi p) →
      exec .monitorSet s = configured { s.sense with supply := ⟨lo, hi, p, s.sense.supply.state, 0, 0, 0⟩ }) ∧
    (∀ d n p, parseMonitorSet m.payload = some (.band d n p) →
      exec .monitorSet s = configured { s.sense with band := ⟨d, n, p, s.sense.band.band, none, 0⟩ }) ∧
    (parseMonitorSet m.payload = none →
      exec .monitorSet s = .next { s with link := s.link.answered rest m .range [] })) ∧
  (∀ (x : ThermalRec) (temp : Int),
    let hot := if x.cutoffAt ≤ temp then min 15 (x.hot + 1) else 0
    let warm := if x.derateAt ≤ temp then min 15 (x.warm + 1) else 0
    let cool := if temp < x.resumeBelow then min 15 (x.cool + 1) else 0
    let new : ThermalState := match x.state with
      | .normal => if x.persistence ≤ hot then .cutoff else if x.persistence ≤ warm then .derate else .normal
      | .derate => if x.persistence ≤ hot then .cutoff else if x.persistence ≤ cool then .normal else .derate
      | .cutoff => if x.persistence ≤ cool then .normal else .cutoff
    (new = x.state → x.sample temp = { x with hot := hot, warm := warm, cool := cool }) ∧
    (new ≠ x.state → x.sample temp = { x with state := new, hot := 0, warm := 0, cool := 0 })) ∧
  ∀ (s : State) (l : LaneId) (code : BitVec 12),
    s.power.state ≠ .standby → s.sense.phase = 9 → .sense ∉ s.clocks.taken → .channel (laneChannel l) ∉ s.clocks.taken →
    let x := s.sense.thermal[l]
    let temp : Int := ((code.toNat * 165 / 4095 : Nat) : Int) - 40
    let hot := if x.cutoffAt ≤ temp then min 15 (x.hot + 1) else 0
    let warm := if x.derateAt ≤ temp then min 15 (x.warm + 1) else 0
    let cool := if temp < x.resumeBelow then min 15 (x.cool + 1) else 0
    let new : ThermalState := match x.state with
      | .normal => if x.persistence ≤ hot then .cutoff else if x.persistence ≤ warm then .derate else .normal
      | .derate => if x.persistence ≤ hot then .cutoff else if x.persistence ≤ cool then .normal else .derate
      | .cutoff => if x.persistence ≤ cool then .normal else .cutoff
    new ≠ x.state →
    exec (.thermalStateChange l code) s = .next
      { s with
        sense := { s.sense with
                   codes := s.sense.codes.put (laneChannel l) (some code)
                   thermal := s.sense.thermal.put l { x with state := new, hot := 0, warm := 0, cool := 0 } }
        link := s.link.post .thermalState
          [BitVec.ofNat 8 l.val, BitVec.ofNat 8 x.state.code, BitVec.ofNat 8 new.code, BitVec.ofInt 8 temp]
        clocks := { s.clocks with
                    now := max s.clocks.now s.clocks.deviceDue
                    taken := .channel (laneChannel l) :: s.clocks.taken } }

/-- O50. SUPPLY_STATE_CHANGE and BAND_ENTRY: the counts, the rows of R159 and R161, and their notices; a sag that ends lets every
PAUSED lane start as from enable, in ACTIVE with a compose request of each BUFFERED one that has no job, in the order in which
they resume, and in SLEEPING under DARK with a dark frame of each that has sent none; jobs that they have outstanding are marked as
raised before; a band entered reaches the trigger unit, before or after its notice. SENSE_TICK takes all six codes and starts the
phase again. Beside them: every sample of the two machines, one that changes no state with its counts and its candidate (R155, R159,
R161). Logs 4 and 11. -/
def Obligations.SupplyAndBandFollowTheirTables : Prop :=
  (∀ (x : SupplyRec) (mv : Nat),
    let low := if mv < x.sagBelow then min 15 (x.low + 1) else 0
    let inside := if x.sagBelow ≤ mv ∧ mv ≤ x.highAbove then min 15 (x.inside + 1) else 0
    let high := if x.highAbove < mv then min 15 (x.high + 1) else 0
    let new : SupplyState := match x.state with
      | .normal => if x.persistence ≤ low then .sag else if x.persistence ≤ high then .high else .normal
      | .sag => if x.persistence ≤ high then .high else if x.persistence ≤ inside then .normal else .sag
      | .high => if x.persistence ≤ low then .sag else if x.persistence ≤ inside then .normal else .high
    (new = x.state → x.sample mv = { x with low := low, inside := inside, high := high }) ∧
    (new ≠ x.state → x.sample mv = { x with state := new, low := 0, inside := 0, high := 0 })) ∧
  (∀ (x : BandRec) (code : Nat),
    let seen : BandName := if x.duskBelow ≤ code then .day else if x.nightBelow ≤ code then .dusk else .night
    let count := if x.candidate = some seen then min 15 (x.count + 1) else 1
    (seen = x.band → x.sample code = { x with candidate := none, count := 0 }) ∧
    (seen ≠ x.band → count < x.persistence → x.sample code = { x with candidate := some seen, count := count }) ∧
    (seen ≠ x.band → x.persistence ≤ count → x.sample code = { x with band := seen, candidate := none, count := 0 })) ∧
  (∀ (s : State) (code : BitVec 12) (ch : Choices),
    s.power.state ≠ .standby → s.sense.phase = 9 → .sense ∉ s.clocks.taken → .channel 5 ∉ s.clocks.taken →
    let x := s.sense.supply
    let mv := code.toNat * 20000 / 4095
    let low := if mv < x.sagBelow then min 15 (x.low + 1) else 0
    let inside := if x.sagBelow ≤ mv ∧ mv ≤ x.highAbove then min 15 (x.inside + 1) else 0
    let high := if x.highAbove < mv then min 15 (x.high + 1) else 0
    let new : SupplyState := match x.state with
      | .normal => if x.persistence ≤ low then .sag else if x.persistence ≤ high then .high else .normal
      | .sag => if x.persistence ≤ high then .high else if x.persistence ≤ inside then .normal else .sag
      | .high => if x.persistence ≤ low then .sag else if x.persistence ≤ inside then .normal else .high
    let changed : State :=
      { s with
        sense := { s.sense with
                   codes := s.sense.codes.put 5 (some code)
                   supply := { x with state := new, low := 0, inside := 0, high := 0 } }
        link := s.link.post .supplyState
          [BitVec.ofNat 8 x.state.code, BitVec.ofNat 8 new.code, BitVec.ofNat 8 (mv / 256), BitVec.ofNat 8 mv]
        clocks := { s.clocks with
                    now := max s.clocks.now s.clocks.deviceDue
                    taken := .channel 5 :: s.clocks.taken } }
    (new ≠ x.state → x.state ≠ .sag → exec (.supplyStateChange code ch) s = .next changed) ∧
    (new ≠ x.state → x.state = .sag → s.power.state = .active ∨ s.power.state = .waking →
      ∃ t : State, exec (.supplyStateChange code ch) s = .next t ∧
        t = { changed with lanes := t.lanes, engine := t.engine } ∧
        (∀ l : LaneId, s.lanes[l].state = .paused → t.lanes[l].state = .starting ∧ t.lanes[l].backReady = false) ∧
        (∀ l : LaneId, s.lanes[l].state ≠ .paused → t.lanes[l] = s.lanes[l]) ∧
        (s.power.state = .waking → t.engine.lanes = s.engine.lanes)) ∧
    (new ≠ x.state → x.state = .sag → s.power.state ≠ .standby → ch.lanesFirst.Nodup → ∃ t : State,
      exec (.supplyStateChange code ch) s = .next t ∧
      t = { changed with lanes := t.lanes, engine := t.engine } ∧
      (let resumes (l : LaneId) := s.lanes[l].state = .paused
       let free (l : LaneId) := (∀ r ∈ s.engine.queue, r.lane ≠ l) ∧ ∀ j ∈ s.engine.job, j.lane ≠ l
       let order := ch.lanesFirst ++ (List.finRange 4).filter fun l => decide (l ∉ ch.lanesFirst)
       let raised : List Request := (order.filter fun l =>
         decide (s.power.state = .active ∧ resumes l ∧ s.lanes[l].latency = .buffered ∧ free l)).map fun l => ⟨l, false⟩
       let marked (r : Request) : Request := if resumes r.lane then { r with stale := true } else r
       (∀ j, s.engine.job = some j → t.engine = ⟨s.engine.queue.map marked ++ raised,
         some (if resumes j.lane then { j with stale := true } else j)⟩) ∧
       (s.engine = ⟨[], none⟩ → t.engine = ⟨raised.tail, raised.head?.map t.newJob⟩) ∧
       ∀ l : LaneId,
         let z := s.lanes[l]
         let y : Lane :=
           { z with
             state := .starting
             lastSent := List.replicate z.nodeCount none
             sentSinceEnable := false
             backReady := false
             scale := if z.latency = .direct then 65536 else z.scale
             soloDue := if z.timing = .solo then some (changed.clocks.now + z.soloPeriod) else none
             darkOwed := false }
         let dark := s.power.state = .sleeping ∧ (∃ m, s.link.inDispatch = some (.sleep m true)) ∧ z.darkSent = false
         (¬resumes l → t.lanes[l] = z) ∧ (resumes l → ¬dark → t.lanes[l] = y) ∧
         (resumes l → dark → z.frame ≠ none → t.lanes[l] = { y with darkOwed := true }) ∧
         (resumes l → dark → z.frame = none → ∃ f,
           t.lanes[l] = { y with
             front := t.lanes[l].front
             lastSent := t.lanes[l].lastSent
             sentSinceEnable := true
             frame := some f
             darkSent := true } ∧
           f.beganAt = changed.clocks.now ∧ f.fed = false ∧ f.slots.length = z.nodeCount ∧
           ∀ p < z.nodeCount, f.slots[p]? = some (some
             (if ∃ r ∈ z.holdSet, r.first ≤ p ∧ p < r.first + r.count then .hold else .colour ⟨0, 0, 0⟩)))))) ∧
  (∀ (s : State) (code : BitVec 12) (ch : Choices) (new : BandName),
    s.power.state ≠ .standby → s.sense.phase = 9 → .sense ∉ s.clocks.taken → .channel 4 ∉ s.clocks.taken →
    let x := s.sense.band
    let indicated : BandName :=
      if x.duskBelow ≤ code.toNat then .day else if x.nightBelow ≤ code.toNat then .dusk else .night
    let fields : List Byte :=
      [BitVec.ofNat 8 x.band.code, BitVec.ofNat 8 new.code, BitVec.ofNat 8 (code.toNat / 256), BitVec.ofNat 8 code.toNat]
    let entered : State :=
      { s with
        sense := { s.sense with
                   codes := s.sense.codes.put 4 (some code)
                   band := { x with band := new, candidate := none, count := 0 } }
        clocks := { s.clocks with
                    now := max s.clocks.now s.clocks.deviceDue
                    taken := .channel 4 :: s.clocks.taken } }
    new ≠ x.band → indicated = new →
    x.candidate = some new ∧ x.persistence ≤ min 15 (x.count + 1) ∨ x.candidate ≠ some new ∧ x.persistence ≤ 1 →
    exec (.bandEntry code ch) s = .next
      (if ch.triggerFirst then (entered.applyEvent (sourceBand new)).post .band fields
       else (entered.post .band fields).applyEvent (sourceBand new))) ∧
  ∀ (s : State) (codes : Tab (BitVec 12) 6) (ch : Choices),
    s.power.state ≠ .standby → s.sense.phase = 9 → .sense ∉ s.clocks.taken →
    (∀ c : ChannelId, .channel c ∉ s.clocks.taken) →
    ∃ t : State, exec (.senseTick codes ch) s = .next t ∧ t.sense.phase = 0 ∧
      (∀ c : ChannelId, t.sense.codes[c] = some codes[c]) ∧
      (∀ l : LaneId, t.sense.thermal[l] =
        s.sense.thermal[l].sample (((codes[laneChannel l].toNat * 165 / 4095 : Nat) : Int) - 40)) ∧
      t.sense.supply = s.sense.supply.sample (codes[(5 : ChannelId)].toNat * 20000 / 4095) ∧
      t.sense.band = s.sense.band.sample codes[(4 : ChannelId)].toNat

/-! ### Power (11) -/

/-- O51. STANDBY_ENTRY: with every last frame over, the engine idle and no sense tick begun (log 38), the part is in STANDBY,
SLEEP is answered and STANDBY_ENTERED posted; a waiting message starts WAKING at once, and a device tick whose sense part has been
taken before is then passed: but for the lines nothing of it is taken any more, and it is not one of the twenty, so that the sense
phase steps at each of those (R167, log 31); with one of these missing nothing happens.
SLEEP: the part is SLEEPING, the command stays in dispatch, each lane closes its feed, and with DARK each lane in STARTING or
RUNNING begins a dark frame or owes one; the entry to STANDBY is then judged at once, so SLEEP that finds a frame in flight or the
engine busy stays in dispatch, and one that finds neither, and begins no dark frame, is in STANDBY. Log 24. -/
def Obligations.SleepEndsInStandby : Prop :=
  (∀ (s : State) (m : LinkMsg) (dark : Bool),
    s.power.state = .sleeping → s.link.inDispatch = some (.sleep m dark) → (∀ l : LaneId, s.lanes[l].frame = none) →
    s.engine = ⟨[], none⟩ → .sense ∈ s.clocks.taken ∨ (∀ c : ChannelId, .channel c ∉ s.clocks.taken) →
    exec .standbyEntry s = .next
      { s with
        power := if s.link.buffer = [] then { s.power with state := .standby }
          else ⟨.waking, some .message, 0, s.power.events⟩
        wheel := { s.wheel with resync := true }
        link := (s.link.answered s.link.buffer m .ok [if dark then 0 else 1]).post .standbyEntered
          [if dark then 0 else 1,
            BitVec.ofNat 8 ((List.finRange 4).countP fun l => decide (s.lanes[l].state ≠ .disabled))]
        clocks := if s.link.buffer ≠ [] ∧ .sense ∈ s.clocks.taken then
            { s.clocks with taken := besidesLines ++ s.clocks.taken }
          else s.clocks }) ∧
  (∀ s : State, s.power.state ≠ .sleeping ∨ (∀ m dark, s.link.inDispatch ≠ some (.sleep m dark)) ∨
      (∃ l : LaneId, s.lanes[l].frame ≠ none) ∨ s.engine ≠ ⟨[], none⟩ ∨
      (.sense ∉ s.clocks.taken ∧ ∃ c : ChannelId, .channel c ∈ s.clocks.taken) → exec .standbyEntry s = .next s) ∧
  (∀ (s : State) (m : LinkMsg) (rest : List LinkMsg), s.Takes kindSleep (lenIs 1) m rest →
    let slept (lanes : Tab Lane 4) (dark : Bool) : State :=
      { s with
        lanes := lanes
        power := { s.power with state := .sleeping }
        link := { s.link with buffer := rest, inDispatch := some (.sleep m dark) } }
    let kept (x : Lane) : Lane := { x with frame := x.frame.map (fun f => { f with closed := true }), darkSent := false }
    (fieldU8 m.payload 0 = 1 → exec .sleep s = exec .standbyEntry (slept (Vector.ofFn fun l => kept s.lanes[l]) false)) ∧
    (fieldU8 m.payload 0 = 0 →
      (∀ l : LaneId, s.lanes[l].frame = none ∧
        (s.lanes[l].state = .starting ∨ s.lanes[l].state = .running → s.sense.supply.state = .sag)) →
      exec .sleep s = exec .standbyEntry (slept (Vector.ofFn fun l => kept s.lanes[l]) true)) ∧
    (fieldU8 m.payload 0 = 0 →
      (∃ l : LaneId, s.lanes[l].state = .starting ∨ s.lanes[l].state = .running) → s.sense.supply.state ≠ .sag →
      ∃ lanes, exec .sleep s = .next (slept lanes true))) ∧
  ∀ (s : State) (m : LinkMsg) (rest : List LinkMsg),
    s.Takes kindSleep (lenIs 1) m rest → (∃ l : LaneId, s.lanes[l].frame ≠ none) ∨ s.engine ≠ ⟨[], none⟩ →
    let slept (lanes : Tab Lane 4) (dark : Bool) : Host.Outcome State Fault Refusal :=
      .next
        { s with
          lanes := lanes
          power := { s.power with state := .sleeping }
          link := { s.link with buffer := rest, inDispatch := some (.sleep m dark) } }
    let kept (x : Lane) : Lane := { x with frame := x.frame.map (fun f => { f with closed := true }), darkSent := false }
    (fieldU8 m.payload 0 = 1 →
      exec .sleep s = slept (Vector.ofFn fun l => kept s.lanes[l]) false) ∧
    (fieldU8 m.payload 0 = 0 → ∃ lanes : Tab Lane 4, exec .sleep s = slept lanes true ∧ ∀ l : LaneId,
      let x := s.lanes[l]
      let lit := x.state = .starting ∨ x.state = .running
      (¬lit → lanes[l] = kept x) ∧
      (lit → x.frame ≠ none → lanes[l] = { (kept x) with darkOwed := true }) ∧
      (lit → x.frame = none → s.sense.supply.state = .sag → lanes[l] = kept x) ∧
      (lit → x.frame = none → s.sense.supply.state ≠ .sag →
        ∃ f, lanes[l].frame = some f ∧ lanes[l].darkSent = true ∧ lanes[l].state = x.state ∧
          f.beganAt = s.clocks.now ∧ f.slots.length = x.nodeCount ∧
          ∀ p < x.nodeCount, f.slots[p]? = some (some
            (if ∃ r ∈ x.holdSet, r.first ≤ p ∧ p < r.first + r.count then .hold else .colour ⟨0, 0, 0⟩)))) ∧
    (2 ≤ fieldU8 m.payload 0 → exec .sleep s = .next { s with link := s.link.answered rest m .range [] })

/-- O52. WAKE in ACTIVE is answered OK; in WAKING it stays in dispatch. WAKING_COMPLETE: the part is ACTIVE, with no wake cause
and no pending event, and every lane that is not DISABLED is STARTING, or PAUSED while the supply sags, with a compose request of
each BUFFERED one that starts and has no job, in the order in which they resume. The WAKE notice counts the pending events, which
are applied in order; a waiting WAKE is answered; nothing else changes but the lanes and the engine. While a channel of that tick
is still to be sampled the row changes nothing; in the whole twentieth tick, whatever its order, the samples come first, so a supply
that they find sagging is in force at the entry (R167, log 38). Log 4: the waking part is taken ahead of the tick. Log 11: the order
of the resumes and the delivery. Log 30: the count stays 20. -/
def Obligations.WakingEndsInActive : Prop :=
  (∀ (s : State) (m : LinkMsg) (rest : List LinkMsg), s.TakesRead kindWake (lenIs 0) m rest →
    exec .wake s = .next
      { s with
        link := if s.power.state = .active then s.link.answered rest m .ok []
          else { s.link with buffer := rest, inDispatch := some (.wake m) } }) ∧
  (∀ (s : State) (ch : Choices) (c : ChannelId),
    s.power.state = .waking → s.sense.phase = 9 → .sense ∉ s.clocks.taken → .channel c ∉ s.clocks.taken →
    exec (.wakingComplete ch) s = .next s) ∧
  (∀ (s : State) (inp : TickInput),
    s.power.state = .waking → s.power.count = 19 → s.clocks.taken = [] →
    ∃ t : State, exec (.deviceTick inp) s = .next t ∧ t.power.state = .active ∧
      t.sense.supply = (if s.sense.phase = 9 then
          s.sense.supply.sample (inp.codes[(5 : ChannelId)].toNat * 20000 / 4095) else s.sense.supply) ∧
      ∀ l : LaneId,
        (s.lanes[l].state = .disabled → t.lanes[l].state = .disabled) ∧
        (s.lanes[l].state ≠ .disabled →
          t.lanes[l].state = if t.sense.supply.state = .sag then .paused else .starting)) ∧
  ∀ (s : State) (ch : Choices),
    s.power.state = .waking → s.power.count = 19 → .waking ∉ s.clocks.taken →
    s.sense.phase ≠ 9 ∨ .sense ∈ s.clocks.taken ∨ (∀ c : ChannelId, .channel c ∈ s.clocks.taken) →
    (∃ t : State, exec (.wakingComplete ch) s = .next t ∧ t.power.state = .active ∧ t.power.cause = none ∧
      t.power.events = [] ∧ t.zones = s.zones ∧ t.pattern = s.pattern ∧
      (∀ m, s.link.inDispatch = some (.wake m) → s.link.replies.length < 8 → t.link.inDispatch = none) ∧
      (ch.lanesFirst.Nodup → ∀ l : LaneId,
        (s.lanes[l].state = .disabled → t.lanes[l] = s.lanes[l]) ∧
        (s.lanes[l].state ≠ .disabled →
          t.lanes[l].state = (if s.sense.supply.state = .sag then .paused else .starting) ∧
          t.lanes[l].backReady = false ∧ t.lanes[l].sentSinceEnable = false))) ∧
    (let cause : List Byte := match s.power.cause with
        | some (.line i) => [1, BitVec.ofNat 8 i.val]
        | _ => [0]
     let begun : State :=
      { s with
        power := ⟨.active, none, 20, []⟩
        link := s.link.post .wake (cause ++ [BitVec.ofNat 8 s.power.events.length])
        clocks := { s.clocks with
                    now := max s.clocks.now s.clocks.deviceDue
                    taken := .waking :: s.clocks.taken } }
     let u := s.power.events.foldl (fun v e => v.applyEvent (LineEvent.source e)) begun
     ∃ t : State, exec (.wakingComplete ch) s = .next t ∧
      t = { u with
            lanes := t.lanes
            engine := t.engine
            link := match s.link.inDispatch with
              | some (.wake m) => u.link.answered u.link.buffer m .ok []
              | _ => u.link } ∧
      (let resumes (l : LaneId) := s.lanes[l].state ≠ .disabled
       let free (l : LaneId) := (∀ r ∈ s.engine.queue, r.lane ≠ l) ∧ ∀ j ∈ s.engine.job, j.lane ≠ l
       let order := ch.lanesFirst ++ (List.finRange 4).filter fun l => decide (l ∉ ch.lanesFirst)
       let raised : List Request := (order.filter fun l => decide
         (resumes l ∧ s.sense.supply.state ≠ .sag ∧ s.lanes[l].latency = .buffered ∧ free l)).map fun l => ⟨l, false⟩
       let marked (r : Request) : Request := if resumes r.lane then { r with stale := true } else r
       ch.lanesFirst.Nodup →
       (∀ j, s.engine.job = some j → t.engine = ⟨s.engine.queue.map marked ++ raised,
         some (if resumes j.lane then { j with stale := true } else j)⟩) ∧
       (s.engine = ⟨[], none⟩ → t.engine.queue = raised.tail ∧
         t.engine.job.map (fun j => (⟨j.lane, j.stale⟩ : Request)) = raised.head? ∧
         ∀ j ∈ t.engine.job, j.startedAt = t.clocks.now ∧ j.duties = []))) ∧
    (s.power.events = [] → (∀ l : LaneId, s.lanes[l].state = .disabled) →
      let cause : List Byte := match s.power.cause with
        | some (.line i) => [1, BitVec.ofNat 8 i.val, 0]
        | _ => [0, 0]
      let k := s.link.post .wake cause
      exec (.wakingComplete ch) s = .next
        { s with
          power := ⟨.active, none, 20, []⟩
          link := match s.link.inDispatch with
            | some (.wake m) => k.answered k.buffer m .ok []
            | _ => k
          clocks := { s.clocks with
                      now := max s.clocks.now s.clocks.deviceDue
                      taken := .waking :: s.clocks.taken } })

/-- O53. DEVICE_TICK: the clock reaches the tick, the next one is 1 ms later and no part of it is taken; zones, stacks, bindings
and pattern memory stay. With no binding in use, each fade and each player whose part is not yet taken moves in ACTIVE and WAKING,
and none does in SLEEPING and STANDBY (log 31). Each line not yet taken is sampled; but for STANDBY so is the wheel; the waking
count and the sense phase go up by 1, and stay where their part is taken already, as at a passed tick (log 31); at phase 9 every
channel not yet sampled is, and the phase is 0; nothing is sensed in STANDBY. In SLEEPING the entry to STANDBY is judged at the
end of the tick (log 38), and it alone changes the power state there. What a fade, a player (R80 to R84, R86), a line (R101) and
the wheel (R105) do at a tick that ends nothing, wraps nothing and makes no edge and no detent; the ends, wraps, edges and detents
are those of O21, O34 to O36, O39 and O40. Log 13, the model's choice: a player in TAIL is judged against its end point after E
has moved. -/
def Obligations.DeviceTickMovesWhatMoves : Prop :=
  (∀ (s : State) (inp : TickInput), ∃ t : State, exec (.deviceTick inp) s = .next t ∧
    t.clocks = { s.clocks with
                 now := max s.clocks.now s.clocks.deviceDue
                 deviceDue := s.clocks.deviceDue + 1000
                 taken := [] } ∧
    t.zones = s.zones ∧ t.zoneStacks = s.zoneStacks ∧ t.bindings = s.bindings ∧ t.pattern = s.pattern ∧
    t.pending = s.pending ∧
    ((∀ b : BindingId, s.bindings[b] = none) →
      (s.power.state = .active ∨ s.power.state = .waking →
        (∀ l : LayerId, .fade l ∉ s.clocks.taken → t.layers[l] = s.layers[l].map LayerRec.tick) ∧
        (∀ p : PlayerId, .player p ∉ s.clocks.taken →
          t.players[p] = (s.players[p].tick p s.pattern).player)) ∧
      (s.power.state = .sleeping ∨ s.power.state = .standby →
        t.layers = s.layers ∧ t.players = s.players)) ∧
    (∀ i : LineId, t.lines[i] =
      if .line i ∈ s.clocks.taken then s.lines[i] else (s.lines[i].sample (inp.lines.getLsbD i.val)).1) ∧
    (s.power.state ≠ .standby → .wheel ∉ s.clocks.taken → (s.wheel.sample inp.wheel).2 = none →
      let x := (s.wheel.sample inp.wheel).1
      t.wheel = (if s.power.state = .sleeping ∧ t.power.state ≠ .sleeping then { x with resync := true } else x) ∧
      t.cal = s.cal) ∧
    (s.power.state = .sleeping →
      ((∀ m dark, s.link.inDispatch ≠ some (.sleep m dark)) → t.power = s.power) ∧
      (∀ m dark, s.link.inDispatch = some (.sleep m dark) → (∀ l : LaneId, s.lanes[l].frame = none) →
        s.engine = ⟨[], none⟩ → s.sense.supply.state ≠ .sag →
        t.power = if s.link.buffer = [] then { s.power with state := .standby }
          else ⟨.waking, some .message, 0, s.power.events⟩)) ∧
    (s.power.state = .waking → .waking ∉ s.clocks.taken → s.power.count < 19 →
      t.power.state = .waking ∧ t.power.count = s.power.count + 1 ∧ t.power.cause = s.power.cause) ∧
    (s.power.state = .waking → .waking ∈ s.clocks.taken →
      t.power.state = .waking ∧ t.power.count = s.power.count ∧ t.power.cause = s.power.cause) ∧
    (.sense ∈ s.clocks.taken → t.sense = s.sense) ∧
    (s.power.state ≠ .standby → .sense ∉ s.clocks.taken → s.sense.phase < 9 →
      t.sense = { s.sense with phase := s.sense.phase + 1 }) ∧
    (s.power.state ≠ .standby → .sense ∉ s.clocks.taken → s.sense.phase = 9 →
      t.sense.phase = 0 ∧ ∀ c : ChannelId,
        t.sense.codes[c] = if .channel c ∈ s.clocks.taken then s.sense.codes[c] else some inp.codes[c]) ∧
    (s.power.state = .standby →
      t.sense = s.sense ∧ t.wheel = s.wheel ∧ t.cal = s.cal ∧ t.layers = s.layers ∧ t.players = s.players)) ∧
  (∀ x : LayerRec,
    (x.state = .rising → x.pos + 1 < x.fadeTime → x.tick = { x with pos := x.pos + 1 }) ∧
    (x.state = .rising → x.pos + 1 = x.fadeTime ∨ x.pos = x.fadeTime →
      x.tick = { x with state := .steady, pos := x.fadeTime }) ∧
    (x.state = .falling → 2 ≤ x.pos → x.tick = { x with pos := x.pos - 1 }) ∧
    (x.state = .falling → x.pos ≤ 1 → x.tick = { x with state := .parked, pos := 0 }) ∧
    (x.state = .parked ∨ x.state = .steady → x.tick = x)) ∧
  (∀ (x : Player) (p : PlayerId) (pm : PatternMemory) (t : Track), pm.trackOf x.settings = some t →
    let e := x.elapsed + x.settings.rate
    let u := if x.settings.mode = .loop then x.settings.loops * t.duration else t.duration
    let endless := x.settings.mode = .loop ∧ x.settings.loops = 0
    let wraps := x.settings.mode = .loop ∧ x.elapsed / (t.duration * 256) < e / (t.duration * 256)
    let holds := x.settings.policy = .extend ∧ x.holdPassed = false ∧
      t.times.getD (x.settings.holdPoint.getD 0) 0 * 256 ≤ e
    (x.state = .running → ¬holds → ¬wraps → (endless → e < t.duration * 256) → (¬endless → e < u * 256) →
      x.tick p pm = PlayerTick.plain { x with elapsed := e }) ∧
    (x.state = .tail → (endless ∨ e < u * 256) →
      x.tick p pm = PlayerTick.plain { x with state := .running, elapsed := e }) ∧
    (x.state = .tail → ¬endless → u * 256 ≤ e → e < (u + x.settings.tail) * 256 →
      x.tick p pm = PlayerTick.plain { x with elapsed := e }) ∧
    (∀ w, x.state = .paused → x.windowLeft = some w → 2 ≤ w →
      x.tick p pm = PlayerTick.plain { x with windowLeft := some (w - 1) }) ∧
    (x.state = .idle ∨ x.state = .armed ∨ x.state = .holding ∨ x.state = .ended → x.tick p pm = PlayerTick.plain x)) ∧
  (∀ (x : LineRec) (v : Bool),
    (x.level = none → x.sample v = ({ x with level := some v, changes := 0 }, none)) ∧
    (x.level = some v → x.sample v = ({ x with changes := 0 }, none)) ∧
    (x.level = some !v → x.changes + 1 < x.filter → x.sample v = ({ x with changes := x.changes + 1 }, none)) ∧
    (x.level = some !v → x.filter ≤ x.changes + 1 → x.sample v = ({ x with level := some v, changes := 0 }, some v))) ∧
  ∀ (x : Wheel) (pair last : BitVec 2),
    (x.lastPair = none ∨ x.resync = true →
      x.sample pair = ({ x with lastPair := some pair, resync := false }, none)) ∧
    (x.lastPair = some last → x.resync = false →
      let moved (n : Int) : Wheel := { x with lastPair := some pair, transitions := n }
      (turnOf last pair = .none → x.sample pair = (moved x.transitions, none)) ∧
      (turnOf last pair = .invalid → x.sample pair = (moved 0, none)) ∧
      (turnOf last pair = .up → x.transitions ≠ 3 → x.sample pair = (moved (x.transitions + 1), none)) ∧
      (turnOf last pair = .down → x.transitions ≠ -3 → x.sample pair = (moved (x.transitions - 1), none)) ∧
      (pair = last → turnOf last pair = .none) ∧ (pair = ~~~last → turnOf last pair = .invalid))

/-! ### The budget of a lane (02) -/

/-- O54. R35, whole: the scale factor by the first row that applies, its range in the last row, and what a capacity of 0 gives; a
job takes it from B_eff × 4095, H and D, the two sums of R34: a held node counts with its last sent duties, one never sent with 0,
any other node with the duties of S6, at the currents of its zone's working set, and a node in no zone draws nothing. Then the law
of R36 for one job: with H within the capacity, the held and the scaled demand together stay within it. -/
def Obligations.BudgetScaleTable : Prop :=
  (∀ cap held demand : Nat,
    (demand = 0 → budgetScale cap held demand = 65536) ∧
    (demand ≠ 0 → held + demand ≤ cap → budgetScale cap held demand = 65536) ∧
    (demand ≠ 0 → cap < held + demand → cap ≤ held → budgetScale cap held demand = 0) ∧
    (demand ≠ 0 → cap < held + demand → held < cap →
      budgetScale cap held demand = (cap - held) * 65536 / demand ∧ 1 ≤ budgetScale cap held demand ∧
        budgetScale cap held demand ≤ 65535) ∧
    (cap = 0 → 0 < demand → budgetScale cap held demand = 0)) ∧
  (∀ d, scaled 0 d = 0 ∧ scaled 65536 d = d) ∧
  (∀ (j : Job) (working : Tab CalSet 8),
    let covers (z : ZoneId) (p : Nat) := j.zones[z].defined = true ∧ j.zones[z].lane = j.lane ∧ j.zones[z].first ≤ p ∧
      p < j.zones[z].first + j.zones[z].count
    (∀ p v, (∀ z, ¬covers z p) → j.draw working p v = 0) ∧
    (∀ p v z, covers z p → (∀ y, covers y p → y = z) →
      let c := working[j.zones[z].set]
      j.draw working p v = v.r * c.iR + v.g * c.iG + v.b * c.iB) ∧
    (∀ p, j.held p = true ↔ ∃ r ∈ j.holdSet, r.first ≤ p ∧ p < r.first + r.count) ∧
    j.heldDemand working = (((List.range j.nodeCount).filter fun p => j.held p).map fun p =>
      j.draw working p (match j.lastSent[p]? with
        | some (some v) => v
        | _ => ⟨0, 0, 0⟩)).sum ∧
    j.demand working = (((List.range j.nodeCount).filter fun p => !j.held p).map fun p =>
      j.draw working p (j.duties.getD p ⟨0, 0, 0⟩)).sum) ∧
  ∀ (j : Job) (working : Tab CalSet 8),
    let cap := 4095 * (match j.thermal with
      | .normal => j.budget
      | .derate => j.budget * j.derate / 256
      | .cutoff => 0)
    let s := budgetScale cap (j.heldDemand working) (j.demand working)
    j.scale working = s ∧
    (j.heldDemand working ≤ cap →
      j.heldDemand working + ((List.range j.nodeCount).map fun p =>
        if j.held p then 0 else j.draw working p ((j.duties.getD p RGB.zero).map (scaled s))).sum ≤ cap)

/-! ### The laws that every step keeps -/

/-- O55. R172, R176, R177, R115: the command input buffer, the reply queue and the notice queue stay within 4, 8 and 16, and no
line has two pending wake events. -/
def Obligations.EveryStepKeepsTheQueuesBounded : Prop :=
  ∀ s t : State, s.link.Bounded ∧ s.power.OnePerLine → step s = .next t → t.link.Bounded ∧ t.power.OnePerLine

/-- O56. R135: at most one compose job a lane is queued or in progress, and a request waits only while a job is in progress. R33 and
R144: a lane's scale factor stays within 65,536 and its underrun count within 65,535. -/
def Obligations.EveryStepKeepsOneJobPerLane : Prop :=
  (∀ s t : State, s.engine.OneJobPerLane ∧ s.engine.Busy → step s = .next t → t.engine.OneJobPerLane ∧ t.engine.Busy) ∧
    ∀ s t : State, (∀ l : LaneId, s.lanes[l].CountsOk) → step s = .next t → ∀ l : LaneId, t.lanes[l].CountsOk

/-- O57. R2 and R9: each node count is at most 96 and the four come to at most 256, every DEFINED zone lies within its lane, and two
zones of one lane share no position. -/
def Obligations.EveryStepKeepsTheZonesApart : Prop :=
  (∀ s t : State, s.NodePool ∧ s.ZonesWithin ∧ s.ZonesApart → step s = .next t →
      t.NodePool ∧ t.ZonesWithin ∧ t.ZonesApart) ∧
    ∀ s t : State, s.ChainsBounded → step s = .next t → t.ChainsBounded

/-- O58. R41 and R58: a stack holds exactly the layers placed in its zone, none twice, at most 6, by non-decreasing priority, and
every placed layer names a DEFINED zone. R42: a placed layer's fade position is at most its fade time, 0 when PARKED and the fade
time when STEADY. -/
def Obligations.EveryStepKeepsTheStacks : Prop :=
  (∀ s t : State, s.StackLaws → step s = .next t → t.StackLaws) ∧
    ∀ s t : State, s.FadesOk → step s = .next t → t.FadesOk

/-- O59. R62, R66, R78 and R98: each block is on the free list or in one chain, each track's times rise from 0, every player that
is not IDLE names a track that is not FREE, and no named track is FREE. -/
def Obligations.EveryStepKeepsThePatternLaws : Prop :=
  ∀ s t : State, s.PatternLaws → step s = .next t → t.PatternLaws

/-- O60. The state after a power-on reset meets every law that the five statements above say a step keeps. -/
def Obligations.ResetMeetsEveryLaw : Prop :=
  (State.reset.link.Bounded ∧ State.reset.power.OnePerLine) ∧
    (State.reset.engine.OneJobPerLane ∧ State.reset.engine.Busy) ∧ (∀ l : LaneId, State.reset.lanes[l].CountsOk) ∧
    (State.reset.NodePool ∧ State.reset.ZonesWithin ∧ State.reset.ZonesApart) ∧ State.reset.ChainsBounded ∧
    State.reset.StackLaws ∧ State.reset.FadesOk ∧
    State.reset.PatternLaws
end

