-- ==== Sys2Proof/Laws/State.lean ====
section
/-! SUPPORT. What each update of a state changes, field by field: one lemma for each field and each update, true by
definition. -/

namespace Sys2Proof.Machine.State

set_option Elab.async false

variable (s : State) (z : ZoneId) (zx : ZoneRec) (l : LayerId) (lx : Option LayerRec) (zs : List LayerId) (p : PlayerId)
  (px : Player) (i : LineId) (ix : LineRec) (b : BindingId) (bx : Option Binding) (n : LaneId) (nx : Lane)
  (mx : PatternMemory) (kx : LinkState) (ex : Engine) (sx : SenseMonitor) (wx : PowerCtl) (cx : Clocks) (ax : CalStore)
  (hx : Wheel) (w : SetId) (cs : CalSet) (j : Fin 64) (d e g t : Nat) (k : NoticeKind) (f : List Byte) (m : LinkMsg)
  (st : Status) (dx : Dispatched) (pr : Parser) (wc : WakeCause)

/-! ### setZone -/

@[simp] theorem setZone_link : (s.setZone z zx).link = s.link := rfl
@[simp] theorem setZone_zones : (s.setZone z zx).zones = s.zones.put z zx := rfl
@[simp] theorem setZone_layers : (s.setZone z zx).layers = s.layers := rfl
@[simp] theorem setZone_zoneStacks : (s.setZone z zx).zoneStacks = s.zoneStacks := rfl
@[simp] theorem setZone_pattern : (s.setZone z zx).pattern = s.pattern := rfl
@[simp] theorem setZone_players : (s.setZone z zx).players = s.players := rfl
@[simp] theorem setZone_lines : (s.setZone z zx).lines = s.lines := rfl
@[simp] theorem setZone_wheel : (s.setZone z zx).wheel = s.wheel := rfl
@[simp] theorem setZone_bindings : (s.setZone z zx).bindings = s.bindings := rfl
@[simp] theorem setZone_cal : (s.setZone z zx).cal = s.cal := rfl
@[simp] theorem setZone_lanes : (s.setZone z zx).lanes = s.lanes := rfl
@[simp] theorem setZone_engine : (s.setZone z zx).engine = s.engine := rfl
@[simp] theorem setZone_sense : (s.setZone z zx).sense = s.sense := rfl
@[simp] theorem setZone_power : (s.setZone z zx).power = s.power := rfl
@[simp] theorem setZone_clocks : (s.setZone z zx).clocks = s.clocks := rfl
@[simp] theorem setZone_pending : (s.setZone z zx).pending = s.pending := rfl

/-! ### setLayer -/

@[simp] theorem setLayer_link : (s.setLayer l lx).link = s.link := rfl
@[simp] theorem setLayer_zones : (s.setLayer l lx).zones = s.zones := rfl
@[simp] theorem setLayer_layers : (s.setLayer l lx).layers = s.layers.put l lx := rfl
@[simp] theorem setLayer_zoneStacks : (s.setLayer l lx).zoneStacks = s.zoneStacks := rfl
@[simp] theorem setLayer_pattern : (s.setLayer l lx).pattern = s.pattern := rfl
@[simp] theorem setLayer_players : (s.setLayer l lx).players = s.players := rfl
@[simp] theorem setLayer_lines : (s.setLayer l lx).lines = s.lines := rfl
@[simp] theorem setLayer_wheel : (s.setLayer l lx).wheel = s.wheel := rfl
@[simp] theorem setLayer_bindings : (s.setLayer l lx).bindings = s.bindings := rfl
@[simp] theorem setLayer_cal : (s.setLayer l lx).cal = s.cal := rfl
@[simp] theorem setLayer_lanes : (s.setLayer l lx).lanes = s.lanes := rfl
@[simp] theorem setLayer_engine : (s.setLayer l lx).engine = s.engine := rfl
@[simp] theorem setLayer_sense : (s.setLayer l lx).sense = s.sense := rfl
@[simp] theorem setLayer_power : (s.setLayer l lx).power = s.power := rfl
@[simp] theorem setLayer_clocks : (s.setLayer l lx).clocks = s.clocks := rfl
@[simp] theorem setLayer_pending : (s.setLayer l lx).pending = s.pending := rfl

/-! ### setStack -/

@[simp] theorem setStack_link : (s.setStack z zs).link = s.link := rfl
@[simp] theorem setStack_zones : (s.setStack z zs).zones = s.zones := rfl
@[simp] theorem setStack_layers : (s.setStack z zs).layers = s.layers := rfl
@[simp] theorem setStack_zoneStacks : (s.setStack z zs).zoneStacks = s.zoneStacks.put z zs := rfl
@[simp] theorem setStack_pattern : (s.setStack z zs).pattern = s.pattern := rfl
@[simp] theorem setStack_players : (s.setStack z zs).players = s.players := rfl
@[simp] theorem setStack_lines : (s.setStack z zs).lines = s.lines := rfl
@[simp] theorem setStack_wheel : (s.setStack z zs).wheel = s.wheel := rfl
@[simp] theorem setStack_bindings : (s.setStack z zs).bindings = s.bindings := rfl
@[simp] theorem setStack_cal : (s.setStack z zs).cal = s.cal := rfl
@[simp] theorem setStack_lanes : (s.setStack z zs).lanes = s.lanes := rfl
@[simp] theorem setStack_engine : (s.setStack z zs).engine = s.engine := rfl
@[simp] theorem setStack_sense : (s.setStack z zs).sense = s.sense := rfl
@[simp] theorem setStack_power : (s.setStack z zs).power = s.power := rfl
@[simp] theorem setStack_clocks : (s.setStack z zs).clocks = s.clocks := rfl
@[simp] theorem setStack_pending : (s.setStack z zs).pending = s.pending := rfl

/-! ### setPlayer -/

@[simp] theorem setPlayer_link : (s.setPlayer p px).link = s.link := rfl
@[simp] theorem setPlayer_zones : (s.setPlayer p px).zones = s.zones := rfl
@[simp] theorem setPlayer_layers : (s.setPlayer p px).layers = s.layers := rfl
@[simp] theorem setPlayer_zoneStacks : (s.setPlayer p px).zoneStacks = s.zoneStacks := rfl
@[simp] theorem setPlayer_pattern : (s.setPlayer p px).pattern = s.pattern := rfl
@[simp] theorem setPlayer_players : (s.setPlayer p px).players = s.players.put p px := rfl
@[simp] theorem setPlayer_lines : (s.setPlayer p px).lines = s.lines := rfl
@[simp] theorem setPlayer_wheel : (s.setPlayer p px).wheel = s.wheel := rfl
@[simp] theorem setPlayer_bindings : (s.setPlayer p px).bindings = s.bindings := rfl
@[simp] theorem setPlayer_cal : (s.setPlayer p px).cal = s.cal := rfl
@[simp] theorem setPlayer_lanes : (s.setPlayer p px).lanes = s.lanes := rfl
@[simp] theorem setPlayer_engine : (s.setPlayer p px).engine = s.engine := rfl
@[simp] theorem setPlayer_sense : (s.setPlayer p px).sense = s.sense := rfl
@[simp] theorem setPlayer_power : (s.setPlayer p px).power = s.power := rfl
@[simp] theorem setPlayer_clocks : (s.setPlayer p px).clocks = s.clocks := rfl
@[simp] theorem setPlayer_pending : (s.setPlayer p px).pending = s.pending := rfl

/-! ### setLine -/

@[simp] theorem setLine_link : (s.setLine i ix).link = s.link := rfl
@[simp] theorem setLine_zones : (s.setLine i ix).zones = s.zones := rfl
@[simp] theorem setLine_layers : (s.setLine i ix).layers = s.layers := rfl
@[simp] theorem setLine_zoneStacks : (s.setLine i ix).zoneStacks = s.zoneStacks := rfl
@[simp] theorem setLine_pattern : (s.setLine i ix).pattern = s.pattern := rfl
@[simp] theorem setLine_players : (s.setLine i ix).players = s.players := rfl
@[simp] theorem setLine_lines : (s.setLine i ix).lines = s.lines.put i ix := rfl
@[simp] theorem setLine_wheel : (s.setLine i ix).wheel = s.wheel := rfl
@[simp] theorem setLine_bindings : (s.setLine i ix).bindings = s.bindings := rfl
@[simp] theorem setLine_cal : (s.setLine i ix).cal = s.cal := rfl
@[simp] theorem setLine_lanes : (s.setLine i ix).lanes = s.lanes := rfl
@[simp] theorem setLine_engine : (s.setLine i ix).engine = s.engine := rfl
@[simp] theorem setLine_sense : (s.setLine i ix).sense = s.sense := rfl
@[simp] theorem setLine_power : (s.setLine i ix).power = s.power := rfl
@[simp] theorem setLine_clocks : (s.setLine i ix).clocks = s.clocks := rfl
@[simp] theorem setLine_pending : (s.setLine i ix).pending = s.pending := rfl

/-! ### setBinding -/

@[simp] theorem setBinding_link : (s.setBinding b bx).link = s.link := rfl
@[simp] theorem setBinding_zones : (s.setBinding b bx).zones = s.zones := rfl
@[simp] theorem setBinding_layers : (s.setBinding b bx).layers = s.layers := rfl
@[simp] theorem setBinding_zoneStacks : (s.setBinding b bx).zoneStacks = s.zoneStacks := rfl
@[simp] theorem setBinding_pattern : (s.setBinding b bx).pattern = s.pattern := rfl
@[simp] theorem setBinding_players : (s.setBinding b bx).players = s.players := rfl
@[simp] theorem setBinding_lines : (s.setBinding b bx).lines = s.lines := rfl
@[simp] theorem setBinding_wheel : (s.setBinding b bx).wheel = s.wheel := rfl
@[simp] theorem setBinding_bindings : (s.setBinding b bx).bindings = s.bindings.put b bx := rfl
@[simp] theorem setBinding_cal : (s.setBinding b bx).cal = s.cal := rfl
@[simp] theorem setBinding_lanes : (s.setBinding b bx).lanes = s.lanes := rfl
@[simp] theorem setBinding_engine : (s.setBinding b bx).engine = s.engine := rfl
@[simp] theorem setBinding_sense : (s.setBinding b bx).sense = s.sense := rfl
@[simp] theorem setBinding_power : (s.setBinding b bx).power = s.power := rfl
@[simp] theorem setBinding_clocks : (s.setBinding b bx).clocks = s.clocks := rfl
@[simp] theorem setBinding_pending : (s.setBinding b bx).pending = s.pending := rfl

/-! ### setLane -/

@[simp] theorem setLane_link : (s.setLane n nx).link = s.link := rfl
@[simp] theorem setLane_zones : (s.setLane n nx).zones = s.zones := rfl
@[simp] theorem setLane_layers : (s.setLane n nx).layers = s.layers := rfl
@[simp] theorem setLane_zoneStacks : (s.setLane n nx).zoneStacks = s.zoneStacks := rfl
@[simp] theorem setLane_pattern : (s.setLane n nx).pattern = s.pattern := rfl
@[simp] theorem setLane_players : (s.setLane n nx).players = s.players := rfl
@[simp] theorem setLane_lines : (s.setLane n nx).lines = s.lines := rfl
@[simp] theorem setLane_wheel : (s.setLane n nx).wheel = s.wheel := rfl
@[simp] theorem setLane_bindings : (s.setLane n nx).bindings = s.bindings := rfl
@[simp] theorem setLane_cal : (s.setLane n nx).cal = s.cal := rfl
@[simp] theorem setLane_lanes : (s.setLane n nx).lanes = s.lanes.put n nx := rfl
@[simp] theorem setLane_engine : (s.setLane n nx).engine = s.engine := rfl
@[simp] theorem setLane_sense : (s.setLane n nx).sense = s.sense := rfl
@[simp] theorem setLane_power : (s.setLane n nx).power = s.power := rfl
@[simp] theorem setLane_clocks : (s.setLane n nx).clocks = s.clocks := rfl
@[simp] theorem setLane_pending : (s.setLane n nx).pending = s.pending := rfl

/-! ### setPattern -/

@[simp] theorem setPattern_link : (s.setPattern mx).link = s.link := rfl
@[simp] theorem setPattern_zones : (s.setPattern mx).zones = s.zones := rfl
@[simp] theorem setPattern_layers : (s.setPattern mx).layers = s.layers := rfl
@[simp] theorem setPattern_zoneStacks : (s.setPattern mx).zoneStacks = s.zoneStacks := rfl
@[simp] theorem setPattern_pattern : (s.setPattern mx).pattern = mx := rfl
@[simp] theorem setPattern_players : (s.setPattern mx).players = s.players := rfl
@[simp] theorem setPattern_lines : (s.setPattern mx).lines = s.lines := rfl
@[simp] theorem setPattern_wheel : (s.setPattern mx).wheel = s.wheel := rfl
@[simp] theorem setPattern_bindings : (s.setPattern mx).bindings = s.bindings := rfl
@[simp] theorem setPattern_cal : (s.setPattern mx).cal = s.cal := rfl
@[simp] theorem setPattern_lanes : (s.setPattern mx).lanes = s.lanes := rfl
@[simp] theorem setPattern_engine : (s.setPattern mx).engine = s.engine := rfl
@[simp] theorem setPattern_sense : (s.setPattern mx).sense = s.sense := rfl
@[simp] theorem setPattern_power : (s.setPattern mx).power = s.power := rfl
@[simp] theorem setPattern_clocks : (s.setPattern mx).clocks = s.clocks := rfl
@[simp] theorem setPattern_pending : (s.setPattern mx).pending = s.pending := rfl

/-! ### setLink -/

@[simp] theorem setLink_link : (s.setLink kx).link = kx := rfl
@[simp] theorem setLink_zones : (s.setLink kx).zones = s.zones := rfl
@[simp] theorem setLink_layers : (s.setLink kx).layers = s.layers := rfl
@[simp] theorem setLink_zoneStacks : (s.setLink kx).zoneStacks = s.zoneStacks := rfl
@[simp] theorem setLink_pattern : (s.setLink kx).pattern = s.pattern := rfl
@[simp] theorem setLink_players : (s.setLink kx).players = s.players := rfl
@[simp] theorem setLink_lines : (s.setLink kx).lines = s.lines := rfl
@[simp] theorem setLink_wheel : (s.setLink kx).wheel = s.wheel := rfl
@[simp] theorem setLink_bindings : (s.setLink kx).bindings = s.bindings := rfl
@[simp] theorem setLink_cal : (s.setLink kx).cal = s.cal := rfl
@[simp] theorem setLink_lanes : (s.setLink kx).lanes = s.lanes := rfl
@[simp] theorem setLink_engine : (s.setLink kx).engine = s.engine := rfl
@[simp] theorem setLink_sense : (s.setLink kx).sense = s.sense := rfl
@[simp] theorem setLink_power : (s.setLink kx).power = s.power := rfl
@[simp] theorem setLink_clocks : (s.setLink kx).clocks = s.clocks := rfl
@[simp] theorem setLink_pending : (s.setLink kx).pending = s.pending := rfl

/-! ### setEngine -/

@[simp] theorem setEngine_link : (s.setEngine ex).link = s.link := rfl
@[simp] theorem setEngine_zones : (s.setEngine ex).zones = s.zones := rfl
@[simp] theorem setEngine_layers : (s.setEngine ex).layers = s.layers := rfl
@[simp] theorem setEngine_zoneStacks : (s.setEngine ex).zoneStacks = s.zoneStacks := rfl
@[simp] theorem setEngine_pattern : (s.setEngine ex).pattern = s.pattern := rfl
@[simp] theorem setEngine_players : (s.setEngine ex).players = s.players := rfl
@[simp] theorem setEngine_lines : (s.setEngine ex).lines = s.lines := rfl
@[simp] theorem setEngine_wheel : (s.setEngine ex).wheel = s.wheel := rfl
@[simp] theorem setEngine_bindings : (s.setEngine ex).bindings = s.bindings := rfl
@[simp] theorem setEngine_cal : (s.setEngine ex).cal = s.cal := rfl
@[simp] theorem setEngine_lanes : (s.setEngine ex).lanes = s.lanes := rfl
@[simp] theorem setEngine_engine : (s.setEngine ex).engine = ex := rfl
@[simp] theorem setEngine_sense : (s.setEngine ex).sense = s.sense := rfl
@[simp] theorem setEngine_power : (s.setEngine ex).power = s.power := rfl
@[simp] theorem setEngine_clocks : (s.setEngine ex).clocks = s.clocks := rfl
@[simp] theorem setEngine_pending : (s.setEngine ex).pending = s.pending := rfl

/-! ### setSense -/

@[simp] theorem setSense_link : (s.setSense sx).link = s.link := rfl
@[simp] theorem setSense_zones : (s.setSense sx).zones = s.zones := rfl
@[simp] theorem setSense_layers : (s.setSense sx).layers = s.layers := rfl
@[simp] theorem setSense_zoneStacks : (s.setSense sx).zoneStacks = s.zoneStacks := rfl
@[simp] theorem setSense_pattern : (s.setSense sx).pattern = s.pattern := rfl
@[simp] theorem setSense_players : (s.setSense sx).players = s.players := rfl
@[simp] theorem setSense_lines : (s.setSense sx).lines = s.lines := rfl
@[simp] theorem setSense_wheel : (s.setSense sx).wheel = s.wheel := rfl
@[simp] theorem setSense_bindings : (s.setSense sx).bindings = s.bindings := rfl
@[simp] theorem setSense_cal : (s.setSense sx).cal = s.cal := rfl
@[simp] theorem setSense_lanes : (s.setSense sx).lanes = s.lanes := rfl
@[simp] theorem setSense_engine : (s.setSense sx).engine = s.engine := rfl
@[simp] theorem setSense_sense : (s.setSense sx).sense = sx := rfl
@[simp] theorem setSense_power : (s.setSense sx).power = s.power := rfl
@[simp] theorem setSense_clocks : (s.setSense sx).clocks = s.clocks := rfl
@[simp] theorem setSense_pending : (s.setSense sx).pending = s.pending := rfl

/-! ### setPower -/

@[simp] theorem setPower_link : (s.setPower wx).link = s.link := rfl
@[simp] theorem setPower_zones : (s.setPower wx).zones = s.zones := rfl
@[simp] theorem setPower_layers : (s.setPower wx).layers = s.layers := rfl
@[simp] theorem setPower_zoneStacks : (s.setPower wx).zoneStacks = s.zoneStacks := rfl
@[simp] theorem setPower_pattern : (s.setPower wx).pattern = s.pattern := rfl
@[simp] theorem setPower_players : (s.setPower wx).players = s.players := rfl
@[simp] theorem setPower_lines : (s.setPower wx).lines = s.lines := rfl
@[simp] theorem setPower_wheel : (s.setPower wx).wheel = s.wheel := rfl
@[simp] theorem setPower_bindings : (s.setPower wx).bindings = s.bindings := rfl
@[simp] theorem setPower_cal : (s.setPower wx).cal = s.cal := rfl
@[simp] theorem setPower_lanes : (s.setPower wx).lanes = s.lanes := rfl
@[simp] theorem setPower_engine : (s.setPower wx).engine = s.engine := rfl
@[simp] theorem setPower_sense : (s.setPower wx).sense = s.sense := rfl
@[simp] theorem setPower_power : (s.setPower wx).power = wx := rfl
@[simp] theorem setPower_clocks : (s.setPower wx).clocks = s.clocks := rfl
@[simp] theorem setPower_pending : (s.setPower wx).pending = s.pending := rfl

/-! ### setClocks -/

@[simp] theorem setClocks_link : (s.setClocks cx).link = s.link := rfl
@[simp] theorem setClocks_zones : (s.setClocks cx).zones = s.zones := rfl
@[simp] theorem setClocks_layers : (s.setClocks cx).layers = s.layers := rfl
@[simp] theorem setClocks_zoneStacks : (s.setClocks cx).zoneStacks = s.zoneStacks := rfl
@[simp] theorem setClocks_pattern : (s.setClocks cx).pattern = s.pattern := rfl
@[simp] theorem setClocks_players : (s.setClocks cx).players = s.players := rfl
@[simp] theorem setClocks_lines : (s.setClocks cx).lines = s.lines := rfl
@[simp] theorem setClocks_wheel : (s.setClocks cx).wheel = s.wheel := rfl
@[simp] theorem setClocks_bindings : (s.setClocks cx).bindings = s.bindings := rfl
@[simp] theorem setClocks_cal : (s.setClocks cx).cal = s.cal := rfl
@[simp] theorem setClocks_lanes : (s.setClocks cx).lanes = s.lanes := rfl
@[simp] theorem setClocks_engine : (s.setClocks cx).engine = s.engine := rfl
@[simp] theorem setClocks_sense : (s.setClocks cx).sense = s.sense := rfl
@[simp] theorem setClocks_power : (s.setClocks cx).power = s.power := rfl
@[simp] theorem setClocks_clocks : (s.setClocks cx).clocks = cx := rfl
@[simp] theorem setClocks_pending : (s.setClocks cx).pending = s.pending := rfl

/-! ### setCal -/

@[simp] theorem setCal_link : (s.setCal ax).link = s.link := rfl
@[simp] theorem setCal_zones : (s.setCal ax).zones = s.zones := rfl
@[simp] theorem setCal_layers : (s.setCal ax).layers = s.layers := rfl
@[simp] theorem setCal_zoneStacks : (s.setCal ax).zoneStacks = s.zoneStacks := rfl
@[simp] theorem setCal_pattern : (s.setCal ax).pattern = s.pattern := rfl
@[simp] theorem setCal_players : (s.setCal ax).players = s.players := rfl
@[simp] theorem setCal_lines : (s.setCal ax).lines = s.lines := rfl
@[simp] theorem setCal_wheel : (s.setCal ax).wheel = s.wheel := rfl
@[simp] theorem setCal_bindings : (s.setCal ax).bindings = s.bindings := rfl
@[simp] theorem setCal_cal : (s.setCal ax).cal = ax := rfl
@[simp] theorem setCal_lanes : (s.setCal ax).lanes = s.lanes := rfl
@[simp] theorem setCal_engine : (s.setCal ax).engine = s.engine := rfl
@[simp] theorem setCal_sense : (s.setCal ax).sense = s.sense := rfl
@[simp] theorem setCal_power : (s.setCal ax).power = s.power := rfl
@[simp] theorem setCal_clocks : (s.setCal ax).clocks = s.clocks := rfl
@[simp] theorem setCal_pending : (s.setCal ax).pending = s.pending := rfl

/-! ### setWheel -/

@[simp] theorem setWheel_link : (s.setWheel hx).link = s.link := rfl
@[simp] theorem setWheel_zones : (s.setWheel hx).zones = s.zones := rfl
@[simp] theorem setWheel_layers : (s.setWheel hx).layers = s.layers := rfl
@[simp] theorem setWheel_zoneStacks : (s.setWheel hx).zoneStacks = s.zoneStacks := rfl
@[simp] theorem setWheel_pattern : (s.setWheel hx).pattern = s.pattern := rfl
@[simp] theorem setWheel_players : (s.setWheel hx).players = s.players := rfl
@[simp] theorem setWheel_lines : (s.setWheel hx).lines = s.lines := rfl
@[simp] theorem setWheel_wheel : (s.setWheel hx).wheel = hx := rfl
@[simp] theorem setWheel_bindings : (s.setWheel hx).bindings = s.bindings := rfl
@[simp] theorem setWheel_cal : (s.setWheel hx).cal = s.cal := rfl
@[simp] theorem setWheel_lanes : (s.setWheel hx).lanes = s.lanes := rfl
@[simp] theorem setWheel_engine : (s.setWheel hx).engine = s.engine := rfl
@[simp] theorem setWheel_sense : (s.setWheel hx).sense = s.sense := rfl
@[simp] theorem setWheel_power : (s.setWheel hx).power = s.power := rfl
@[simp] theorem setWheel_clocks : (s.setWheel hx).clocks = s.clocks := rfl
@[simp] theorem setWheel_pending : (s.setWheel hx).pending = s.pending := rfl

/-! ### setWorking -/

@[simp] theorem setWorking_link : (s.setWorking w cs).link = s.link := rfl
@[simp] theorem setWorking_zones : (s.setWorking w cs).zones = s.zones := rfl
@[simp] theorem setWorking_layers : (s.setWorking w cs).layers = s.layers := rfl
@[simp] theorem setWorking_zoneStacks : (s.setWorking w cs).zoneStacks = s.zoneStacks := rfl
@[simp] theorem setWorking_pattern : (s.setWorking w cs).pattern = s.pattern := rfl
@[simp] theorem setWorking_players : (s.setWorking w cs).players = s.players := rfl
@[simp] theorem setWorking_lines : (s.setWorking w cs).lines = s.lines := rfl
@[simp] theorem setWorking_wheel : (s.setWorking w cs).wheel = s.wheel := rfl
@[simp] theorem setWorking_bindings : (s.setWorking w cs).bindings = s.bindings := rfl
@[simp] theorem setWorking_cal : (s.setWorking w cs).cal = { s.cal with working := s.cal.working.put w cs } := rfl
@[simp] theorem setWorking_lanes : (s.setWorking w cs).lanes = s.lanes := rfl
@[simp] theorem setWorking_engine : (s.setWorking w cs).engine = s.engine := rfl
@[simp] theorem setWorking_sense : (s.setWorking w cs).sense = s.sense := rfl
@[simp] theorem setWorking_power : (s.setWorking w cs).power = s.power := rfl
@[simp] theorem setWorking_clocks : (s.setWorking w cs).clocks = s.clocks := rfl
@[simp] theorem setWorking_pending : (s.setWorking w cs).pending = s.pending := rfl

/-! ### setWheelIndex -/

@[simp] theorem setWheelIndex_link : (s.setWheelIndex j).link = s.link := rfl
@[simp] theorem setWheelIndex_zones : (s.setWheelIndex j).zones = s.zones := rfl
@[simp] theorem setWheelIndex_layers : (s.setWheelIndex j).layers = s.layers := rfl
@[simp] theorem setWheelIndex_zoneStacks : (s.setWheelIndex j).zoneStacks = s.zoneStacks := rfl
@[simp] theorem setWheelIndex_pattern : (s.setWheelIndex j).pattern = s.pattern := rfl
@[simp] theorem setWheelIndex_players : (s.setWheelIndex j).players = s.players := rfl
@[simp] theorem setWheelIndex_lines : (s.setWheelIndex j).lines = s.lines := rfl
@[simp] theorem setWheelIndex_wheel : (s.setWheelIndex j).wheel = s.wheel := rfl
@[simp] theorem setWheelIndex_bindings : (s.setWheelIndex j).bindings = s.bindings := rfl
@[simp] theorem setWheelIndex_cal : (s.setWheelIndex j).cal = { s.cal with wheelIndex := j } := rfl
@[simp] theorem setWheelIndex_lanes : (s.setWheelIndex j).lanes = s.lanes := rfl
@[simp] theorem setWheelIndex_engine : (s.setWheelIndex j).engine = s.engine := rfl
@[simp] theorem setWheelIndex_sense : (s.setWheelIndex j).sense = s.sense := rfl
@[simp] theorem setWheelIndex_power : (s.setWheelIndex j).power = s.power := rfl
@[simp] theorem setWheelIndex_clocks : (s.setWheelIndex j).clocks = s.clocks := rfl
@[simp] theorem setWheelIndex_pending : (s.setWheelIndex j).pending = s.pending := rfl

/-! ### setFactors -/

@[simp] theorem setFactors_link : (s.setFactors d e g).link = s.link := rfl
@[simp] theorem setFactors_zones : (s.setFactors d e g).zones = s.zones := rfl
@[simp] theorem setFactors_layers : (s.setFactors d e g).layers = s.layers := rfl
@[simp] theorem setFactors_zoneStacks : (s.setFactors d e g).zoneStacks = s.zoneStacks := rfl
@[simp] theorem setFactors_pattern : (s.setFactors d e g).pattern = s.pattern := rfl
@[simp] theorem setFactors_players : (s.setFactors d e g).players = s.players := rfl
@[simp] theorem setFactors_lines : (s.setFactors d e g).lines = s.lines := rfl
@[simp] theorem setFactors_wheel : (s.setFactors d e g).wheel = s.wheel := rfl
@[simp] theorem setFactors_bindings : (s.setFactors d e g).bindings = s.bindings := rfl
@[simp] theorem setFactors_cal : (s.setFactors d e g).cal = { s.cal with factorDay := d, factorDusk := e, factorNight := g } := rfl
@[simp] theorem setFactors_lanes : (s.setFactors d e g).lanes = s.lanes := rfl
@[simp] theorem setFactors_engine : (s.setFactors d e g).engine = s.engine := rfl
@[simp] theorem setFactors_sense : (s.setFactors d e g).sense = s.sense := rfl
@[simp] theorem setFactors_power : (s.setFactors d e g).power = s.power := rfl
@[simp] theorem setFactors_clocks : (s.setFactors d e g).clocks = s.clocks := rfl
@[simp] theorem setFactors_pending : (s.setFactors d e g).pending = s.pending := rfl

/-! ### clockTo -/

@[simp] theorem clockTo_link : (s.clockTo t).link = s.link := rfl
@[simp] theorem clockTo_zones : (s.clockTo t).zones = s.zones := rfl
@[simp] theorem clockTo_layers : (s.clockTo t).layers = s.layers := rfl
@[simp] theorem clockTo_zoneStacks : (s.clockTo t).zoneStacks = s.zoneStacks := rfl
@[simp] theorem clockTo_pattern : (s.clockTo t).pattern = s.pattern := rfl
@[simp] theorem clockTo_players : (s.clockTo t).players = s.players := rfl
@[simp] theorem clockTo_lines : (s.clockTo t).lines = s.lines := rfl
@[simp] theorem clockTo_wheel : (s.clockTo t).wheel = s.wheel := rfl
@[simp] theorem clockTo_bindings : (s.clockTo t).bindings = s.bindings := rfl
@[simp] theorem clockTo_cal : (s.clockTo t).cal = s.cal := rfl
@[simp] theorem clockTo_lanes : (s.clockTo t).lanes = s.lanes := rfl
@[simp] theorem clockTo_engine : (s.clockTo t).engine = s.engine := rfl
@[simp] theorem clockTo_sense : (s.clockTo t).sense = s.sense := rfl
@[simp] theorem clockTo_power : (s.clockTo t).power = s.power := rfl
@[simp] theorem clockTo_clocks : (s.clockTo t).clocks = { s.clocks with now := max s.clocks.now t } := rfl
@[simp] theorem clockTo_pending : (s.clockTo t).pending = s.pending := rfl

/-! ### post -/

@[simp] theorem post_link : (s.post k f).link = s.link.post k f := rfl
@[simp] theorem post_zones : (s.post k f).zones = s.zones := rfl
@[simp] theorem post_layers : (s.post k f).layers = s.layers := rfl
@[simp] theorem post_zoneStacks : (s.post k f).zoneStacks = s.zoneStacks := rfl
@[simp] theorem post_pattern : (s.post k f).pattern = s.pattern := rfl
@[simp] theorem post_players : (s.post k f).players = s.players := rfl
@[simp] theorem post_lines : (s.post k f).lines = s.lines := rfl
@[simp] theorem post_wheel : (s.post k f).wheel = s.wheel := rfl
@[simp] theorem post_bindings : (s.post k f).bindings = s.bindings := rfl
@[simp] theorem post_cal : (s.post k f).cal = s.cal := rfl
@[simp] theorem post_lanes : (s.post k f).lanes = s.lanes := rfl
@[simp] theorem post_engine : (s.post k f).engine = s.engine := rfl
@[simp] theorem post_sense : (s.post k f).sense = s.sense := rfl
@[simp] theorem post_power : (s.post k f).power = s.power := rfl
@[simp] theorem post_clocks : (s.post k f).clocks = s.clocks := rfl
@[simp] theorem post_pending : (s.post k f).pending = s.pending := rfl

/-! ### answer -/

@[simp] theorem answer_link : (s.answer m st f).link = s.link.joinReply (replyTo m st f) := rfl
@[simp] theorem answer_zones : (s.answer m st f).zones = s.zones := rfl
@[simp] theorem answer_layers : (s.answer m st f).layers = s.layers := rfl
@[simp] theorem answer_zoneStacks : (s.answer m st f).zoneStacks = s.zoneStacks := rfl
@[simp] theorem answer_pattern : (s.answer m st f).pattern = s.pattern := rfl
@[simp] theorem answer_players : (s.answer m st f).players = s.players := rfl
@[simp] theorem answer_lines : (s.answer m st f).lines = s.lines := rfl
@[simp] theorem answer_wheel : (s.answer m st f).wheel = s.wheel := rfl
@[simp] theorem answer_bindings : (s.answer m st f).bindings = s.bindings := rfl
@[simp] theorem answer_cal : (s.answer m st f).cal = s.cal := rfl
@[simp] theorem answer_lanes : (s.answer m st f).lanes = s.lanes := rfl
@[simp] theorem answer_engine : (s.answer m st f).engine = s.engine := rfl
@[simp] theorem answer_sense : (s.answer m st f).sense = s.sense := rfl
@[simp] theorem answer_power : (s.answer m st f).power = s.power := rfl
@[simp] theorem answer_clocks : (s.answer m st f).clocks = s.clocks := rfl
@[simp] theorem answer_pending : (s.answer m st f).pending = s.pending := rfl

/-! ### refuse -/

@[simp] theorem refuse_link : (s.refuse m st).link = s.link.joinReply (replyTo m st []) := rfl
@[simp] theorem refuse_zones : (s.refuse m st).zones = s.zones := rfl
@[simp] theorem refuse_layers : (s.refuse m st).layers = s.layers := rfl
@[simp] theorem refuse_zoneStacks : (s.refuse m st).zoneStacks = s.zoneStacks := rfl
@[simp] theorem refuse_pattern : (s.refuse m st).pattern = s.pattern := rfl
@[simp] theorem refuse_players : (s.refuse m st).players = s.players := rfl
@[simp] theorem refuse_lines : (s.refuse m st).lines = s.lines := rfl
@[simp] theorem refuse_wheel : (s.refuse m st).wheel = s.wheel := rfl
@[simp] theorem refuse_bindings : (s.refuse m st).bindings = s.bindings := rfl
@[simp] theorem refuse_cal : (s.refuse m st).cal = s.cal := rfl
@[simp] theorem refuse_lanes : (s.refuse m st).lanes = s.lanes := rfl
@[simp] theorem refuse_engine : (s.refuse m st).engine = s.engine := rfl
@[simp] theorem refuse_sense : (s.refuse m st).sense = s.sense := rfl
@[simp] theorem refuse_power : (s.refuse m st).power = s.power := rfl
@[simp] theorem refuse_clocks : (s.refuse m st).clocks = s.clocks := rfl
@[simp] theorem refuse_pending : (s.refuse m st).pending = s.pending := rfl

/-! ### ok -/

@[simp] theorem ok_link : (s.ok m f).link = s.link.joinReply (replyTo m .ok f) := rfl
@[simp] theorem ok_zones : (s.ok m f).zones = s.zones := rfl
@[simp] theorem ok_layers : (s.ok m f).layers = s.layers := rfl
@[simp] theorem ok_zoneStacks : (s.ok m f).zoneStacks = s.zoneStacks := rfl
@[simp] theorem ok_pattern : (s.ok m f).pattern = s.pattern := rfl
@[simp] theorem ok_players : (s.ok m f).players = s.players := rfl
@[simp] theorem ok_lines : (s.ok m f).lines = s.lines := rfl
@[simp] theorem ok_wheel : (s.ok m f).wheel = s.wheel := rfl
@[simp] theorem ok_bindings : (s.ok m f).bindings = s.bindings := rfl
@[simp] theorem ok_cal : (s.ok m f).cal = s.cal := rfl
@[simp] theorem ok_lanes : (s.ok m f).lanes = s.lanes := rfl
@[simp] theorem ok_engine : (s.ok m f).engine = s.engine := rfl
@[simp] theorem ok_sense : (s.ok m f).sense = s.sense := rfl
@[simp] theorem ok_power : (s.ok m f).power = s.power := rfl
@[simp] theorem ok_clocks : (s.ok m f).clocks = s.clocks := rfl
@[simp] theorem ok_pending : (s.ok m f).pending = s.pending := rfl

/-! ### hold -/

@[simp] theorem hold_link : (s.hold dx).link = { s.link with inDispatch := some dx } := rfl
@[simp] theorem hold_zones : (s.hold dx).zones = s.zones := rfl
@[simp] theorem hold_layers : (s.hold dx).layers = s.layers := rfl
@[simp] theorem hold_zoneStacks : (s.hold dx).zoneStacks = s.zoneStacks := rfl
@[simp] theorem hold_pattern : (s.hold dx).pattern = s.pattern := rfl
@[simp] theorem hold_players : (s.hold dx).players = s.players := rfl
@[simp] theorem hold_lines : (s.hold dx).lines = s.lines := rfl
@[simp] theorem hold_wheel : (s.hold dx).wheel = s.wheel := rfl
@[simp] theorem hold_bindings : (s.hold dx).bindings = s.bindings := rfl
@[simp] theorem hold_cal : (s.hold dx).cal = s.cal := rfl
@[simp] theorem hold_lanes : (s.hold dx).lanes = s.lanes := rfl
@[simp] theorem hold_engine : (s.hold dx).engine = s.engine := rfl
@[simp] theorem hold_sense : (s.hold dx).sense = s.sense := rfl
@[simp] theorem hold_power : (s.hold dx).power = s.power := rfl
@[simp] theorem hold_clocks : (s.hold dx).clocks = s.clocks := rfl
@[simp] theorem hold_pending : (s.hold dx).pending = s.pending := rfl

/-! ### takeFront -/

@[simp] theorem takeFront_link : s.takeFront.link = { s.link with buffer := s.link.buffer.drop 1 } := rfl
@[simp] theorem takeFront_zones : s.takeFront.zones = s.zones := rfl
@[simp] theorem takeFront_layers : s.takeFront.layers = s.layers := rfl
@[simp] theorem takeFront_zoneStacks : s.takeFront.zoneStacks = s.zoneStacks := rfl
@[simp] theorem takeFront_pattern : s.takeFront.pattern = s.pattern := rfl
@[simp] theorem takeFront_players : s.takeFront.players = s.players := rfl
@[simp] theorem takeFront_lines : s.takeFront.lines = s.lines := rfl
@[simp] theorem takeFront_wheel : s.takeFront.wheel = s.wheel := rfl
@[simp] theorem takeFront_bindings : s.takeFront.bindings = s.bindings := rfl
@[simp] theorem takeFront_cal : s.takeFront.cal = s.cal := rfl
@[simp] theorem takeFront_lanes : s.takeFront.lanes = s.lanes := rfl
@[simp] theorem takeFront_engine : s.takeFront.engine = s.engine := rfl
@[simp] theorem takeFront_sense : s.takeFront.sense = s.sense := rfl
@[simp] theorem takeFront_power : s.takeFront.power = s.power := rfl
@[simp] theorem takeFront_clocks : s.takeFront.clocks = s.clocks := rfl
@[simp] theorem takeFront_pending : s.takeFront.pending = s.pending := rfl

/-! ### setParser -/

@[simp] theorem setParser_link : (s.setParser pr).link = { s.link with parser := pr } := rfl
@[simp] theorem setParser_zones : (s.setParser pr).zones = s.zones := rfl
@[simp] theorem setParser_layers : (s.setParser pr).layers = s.layers := rfl
@[simp] theorem setParser_zoneStacks : (s.setParser pr).zoneStacks = s.zoneStacks := rfl
@[simp] theorem setParser_pattern : (s.setParser pr).pattern = s.pattern := rfl
@[simp] theorem setParser_players : (s.setParser pr).players = s.players := rfl
@[simp] theorem setParser_lines : (s.setParser pr).lines = s.lines := rfl
@[simp] theorem setParser_wheel : (s.setParser pr).wheel = s.wheel := rfl
@[simp] theorem setParser_bindings : (s.setParser pr).bindings = s.bindings := rfl
@[simp] theorem setParser_cal : (s.setParser pr).cal = s.cal := rfl
@[simp] theorem setParser_lanes : (s.setParser pr).lanes = s.lanes := rfl
@[simp] theorem setParser_engine : (s.setParser pr).engine = s.engine := rfl
@[simp] theorem setParser_sense : (s.setParser pr).sense = s.sense := rfl
@[simp] theorem setParser_power : (s.setParser pr).power = s.power := rfl
@[simp] theorem setParser_clocks : (s.setParser pr).clocks = s.clocks := rfl
@[simp] theorem setParser_pending : (s.setParser pr).pending = s.pending := rfl

/-! ### enterWaking -/

@[simp] theorem enterWaking_link : (s.enterWaking wc).link = s.link := rfl
@[simp] theorem enterWaking_zones : (s.enterWaking wc).zones = s.zones := rfl
@[simp] theorem enterWaking_layers : (s.enterWaking wc).layers = s.layers := rfl
@[simp] theorem enterWaking_zoneStacks : (s.enterWaking wc).zoneStacks = s.zoneStacks := rfl
@[simp] theorem enterWaking_pattern : (s.enterWaking wc).pattern = s.pattern := rfl
@[simp] theorem enterWaking_players : (s.enterWaking wc).players = s.players := rfl
@[simp] theorem enterWaking_lines : (s.enterWaking wc).lines = s.lines := rfl
@[simp] theorem enterWaking_wheel : (s.enterWaking wc).wheel = s.wheel := rfl
@[simp] theorem enterWaking_bindings : (s.enterWaking wc).bindings = s.bindings := rfl
@[simp] theorem enterWaking_cal : (s.enterWaking wc).cal = s.cal := rfl
@[simp] theorem enterWaking_lanes : (s.enterWaking wc).lanes = s.lanes := rfl
@[simp] theorem enterWaking_engine : (s.enterWaking wc).engine = s.engine := rfl
@[simp] theorem enterWaking_sense : (s.enterWaking wc).sense = s.sense := rfl
@[simp] theorem enterWaking_power : (s.enterWaking wc).power = { s.power with state := .waking, cause := some wc, count := 0 } := rfl
@[simp] theorem enterWaking_clocks : (s.enterWaking wc).clocks = s.clocks := rfl
@[simp] theorem enterWaking_pending : (s.enterWaking wc).pending = s.pending := rfl

/-! ### wakeByMessage -/

@[simp] theorem wakeByMessage_link : s.wakeByMessage.link = s.link := rfl
@[simp] theorem wakeByMessage_zones : s.wakeByMessage.zones = s.zones := rfl
@[simp] theorem wakeByMessage_layers : s.wakeByMessage.layers = s.layers := rfl
@[simp] theorem wakeByMessage_zoneStacks : s.wakeByMessage.zoneStacks = s.zoneStacks := rfl
@[simp] theorem wakeByMessage_pattern : s.wakeByMessage.pattern = s.pattern := rfl
@[simp] theorem wakeByMessage_players : s.wakeByMessage.players = s.players := rfl
@[simp] theorem wakeByMessage_lines : s.wakeByMessage.lines = s.lines := rfl
@[simp] theorem wakeByMessage_wheel : s.wakeByMessage.wheel = s.wheel := rfl
@[simp] theorem wakeByMessage_bindings : s.wakeByMessage.bindings = s.bindings := rfl
@[simp] theorem wakeByMessage_cal : s.wakeByMessage.cal = s.cal := rfl
@[simp] theorem wakeByMessage_lanes : s.wakeByMessage.lanes = s.lanes := rfl
@[simp] theorem wakeByMessage_engine : s.wakeByMessage.engine = s.engine := rfl
@[simp] theorem wakeByMessage_sense : s.wakeByMessage.sense = s.sense := rfl
@[simp] theorem wakeByMessage_power :
    s.wakeByMessage.power = { s.power with state := .waking, cause := some .message, count := 0 } := rfl
@[simp] theorem wakeByMessage_clocks :
    s.wakeByMessage.clocks = if TickPart.sense ∈ s.clocks.taken then s.clocks.passTick else s.clocks := rfl
@[simp] theorem wakeByMessage_pending : s.wakeByMessage.pending = s.pending := rfl

end Sys2Proof.Machine.State

/-! ### Clocks.passTick -/

namespace Sys2Proof.Machine.Clocks

variable (x : Clocks)

@[simp] theorem passTick_now : x.passTick.now = x.now := rfl
@[simp] theorem passTick_deviceDue : x.passTick.deviceDue = x.deviceDue := rfl
@[simp] theorem passTick_taken : x.passTick.taken = besidesLines ++ x.taken := rfl
@[simp] theorem passTick_groupPeriod : x.passTick.groupPeriod = x.groupPeriod := rfl
@[simp] theorem passTick_groupDue : x.passTick.groupDue = x.groupDue := rfl

end Sys2Proof.Machine.Clocks
end

