-- ==== Sys2Proof/Laws/Link.lean ====
section
/-! SUPPORT. What the link's shared operations do: posting, replying, dispatching and sending, and that they keep the
queues within their bounds. -/

namespace Sys2Proof.Machine

set_option Elab.async false

/-! ### Notices -/

/-- All that posting can do: nothing, one more notice, or LOST. -/
theorem LinkState.post_cases (k : LinkState) (kind : NoticeKind) (f : List Byte) :
    k.post kind f = k ∨
      (k.notices.length < 16 ∧ k.post kind f = { k with notices := k.notices ++ [⟨kind, f⟩] }) ∨
      k.post kind f = { k with lost := true } := by
  unfold LinkState.post
  split_ifs with h1 h2
  · exact .inr (.inl ⟨h2, rfl⟩)
  · exact .inr (.inr rfl)
  · exact .inl rfl

/-- Posting changes the notices and the LOST flag alone. -/
theorem LinkState.post_eq (k : LinkState) (kind : NoticeKind) (f : List Byte) :
    k.post kind f = { k with notices := (k.post kind f).notices, lost := (k.post kind f).lost } := by
  rcases k.post_cases kind f with h | ⟨_, h⟩ | h <;> rw [h]

@[simp] theorem LinkState.post_parser (k : LinkState) (kind : NoticeKind) (f : List Byte) :
    (k.post kind f).parser = k.parser := by rw [k.post_eq kind f]

@[simp] theorem LinkState.post_lastByteEnd (k : LinkState) (kind : NoticeKind) (f : List Byte) :
    (k.post kind f).lastByteEnd = k.lastByteEnd := by rw [k.post_eq kind f]

@[simp] theorem LinkState.post_buffer (k : LinkState) (kind : NoticeKind) (f : List Byte) :
    (k.post kind f).buffer = k.buffer := by rw [k.post_eq kind f]

@[simp] theorem LinkState.post_inDispatch (k : LinkState) (kind : NoticeKind) (f : List Byte) :
    (k.post kind f).inDispatch = k.inDispatch := by rw [k.post_eq kind f]

@[simp] theorem LinkState.post_replies (k : LinkState) (kind : NoticeKind) (f : List Byte) :
    (k.post kind f).replies = k.replies := by rw [k.post_eq kind f]

@[simp] theorem LinkState.post_mask (k : LinkState) (kind : NoticeKind) (f : List Byte) :
    (k.post kind f).mask = k.mask := by rw [k.post_eq kind f]

@[simp] theorem LinkState.post_busyDrops (k : LinkState) (kind : NoticeKind) (f : List Byte) :
    (k.post kind f).busyDrops = k.busyDrops := by rw [k.post_eq kind f]

@[simp] theorem LinkState.post_tx (k : LinkState) (kind : NoticeKind) (f : List Byte) :
    (k.post kind f).tx = k.tx := by rw [k.post_eq kind f]

theorem LinkState.post_bounded {k : LinkState} (h : k.Bounded) (kind : NoticeKind) (f : List Byte) :
    (k.post kind f).Bounded := by
  rcases k.post_cases kind f with e | ⟨hn, e⟩ | e <;> rw [e]
  · exact h
  · exact ⟨h.1, h.2.1, by simpa using hn⟩
  · exact h

/-- Posting a list of notices touches the link alone. -/
theorem State.postAll_eq (ns : List Notice) : ∀ s : State, s.postAll ns = s.setLink (s.link.posted ns) := by
  induction ns with
  | nil => intro s; rfl
  | cons n ns ih => intro s; exact ih (s.post n.kind n.fields)

theorem LinkState.posted_bounded (ns : List Notice) : ∀ {k : LinkState}, k.Bounded → (k.posted ns).Bounded := by
  induction ns with
  | nil => exact fun h => h
  | cons n ns ih => exact fun h => ih (LinkState.post_bounded h n.kind n.fields)

/-- What posting leaves alone. -/
theorem LinkState.posted_rest (ns : List Notice) : ∀ k : LinkState,
    (k.posted ns).buffer = k.buffer ∧ (k.posted ns).inDispatch = k.inDispatch ∧ (k.posted ns).replies = k.replies ∧
      (k.posted ns).mask = k.mask ∧ (k.posted ns).parser = k.parser ∧ (k.posted ns).busyDrops = k.busyDrops ∧
      (k.posted ns).tx = k.tx ∧ (k.posted ns).lastByteEnd = k.lastByteEnd := by
  induction ns with
  | nil => exact fun k => ⟨rfl, rfl, rfl, rfl, rfl, rfl, rfl, rfl⟩
  | cons n ns ih =>
    intro k
    have h := ih (k.post n.kind n.fields)
    simp only [LinkState.post_buffer, LinkState.post_inDispatch, LinkState.post_replies, LinkState.post_mask,
      LinkState.post_parser, LinkState.post_busyDrops, LinkState.post_tx, LinkState.post_lastByteEnd] at h
    exact h

/-! ### Replies -/

theorem LinkState.joinReply_bounded {k : LinkState} (h : k.Bounded) (r : Reply) : (k.joinReply r).Bounded := by
  unfold LinkState.joinReply
  split_ifs with hr
  · exact ⟨h.1, by simpa using hr, h.2.2⟩
  · exact h

theorem LinkState.busyReply_bounded {k : LinkState} (h : k.Bounded) (m : LinkMsg) : (k.busyReply m).Bounded := by
  unfold LinkState.busyReply
  split_ifs with hr
  · exact ⟨h.1, by simpa using hr, h.2.2⟩
  · exact h

/-- The reply of a message that has just left the buffer. -/
theorem LinkState.joinReply_taken (k : LinkState) (m : LinkMsg) (rest : List LinkMsg) (st : Status) (f : List Byte)
    (hb : k.buffer = m :: rest) :
    LinkState.joinReply { k with buffer := k.buffer.drop 1 } (replyTo m st f) = k.answered rest m st f := by
  simp only [LinkState.joinReply, LinkState.answered, replyTo, hb, List.drop_succ_cons, List.drop_zero]

/-! ### Dispatch -/

theorem State.frontMessage_active {s : State} {m : LinkMsg} {rest : List LinkMsg} (hd : s.link.inDispatch = none)
    (hp : s.power.state = .active ∨ s.power.state = .waking) (hb : s.link.buffer = m :: rest) :
    s.frontMessage = some m := by
  simp only [State.frontMessage, State.dispatchable, hd, hb, Option.isNone_none, Bool.true_and, List.head?_cons]
  rcases hp with hp | hp <;> simp [hp]

/-- A command that passes checks 1 to 3 is judged by its own rule. -/
theorem State.dispatch_takes {s : State} {kind : Byte} {len : List Byte → Bool} {waking : Bool}
    {body : LinkMsg → State → State} {m : LinkMsg} {rest : List LinkMsg} (h : s.Takes kind len m rest) :
    s.dispatch kind len waking body = body m s.takeFront := by
  obtain ⟨hd, hp, hb, hk, hl⟩ := h
  simp [State.dispatch, State.frontMessage_active hd (.inl hp) hb, hk, hl, hp]

/-- The same for a command that is served in WAKING too. -/
theorem State.dispatch_takesRead {s : State} {kind : Byte} {len : List Byte → Bool} {body : LinkMsg → State → State}
    {m : LinkMsg} {rest : List LinkMsg} (h : s.TakesRead kind len m rest) :
    s.dispatch kind len true body = body m s.takeFront := by
  obtain ⟨hd, hp, hb, hk, hl⟩ := h
  simp [State.dispatch, State.frontMessage_active hd hp hb, hk, hl]

/-- All that a dispatch can do. -/
theorem State.dispatch_cases (s : State) (kind : Byte) (len : List Byte → Bool) (waking : Bool)
    (body : LinkMsg → State → State) :
    s.dispatch kind len waking body = s ∨
      ∃ m, s.frontMessage = some m ∧
        (s.dispatch kind len waking body = s.takeFront.refuse m .badLength ∨
          s.dispatch kind len waking body = s.takeFront.refuse m .waking ∨
          (m.kind = kind ∧ s.dispatch kind len waking body = body m s.takeFront)) := by
  unfold State.dispatch
  split
  · exact .inl rfl
  · rename_i m hm
    dsimp only
    split_ifs with hk hl hw
    · exact .inr ⟨m, hm, .inr (.inl rfl)⟩
    · exact .inr ⟨m, hm, .inr (.inr ⟨hk, rfl⟩)⟩
    · exact .inr ⟨m, hm, .inl rfl⟩
    · exact .inl rfl

/-- An answer to the message just taken, as the statements write it. -/
theorem State.takeFront_answer {s : State} {m : LinkMsg} {rest : List LinkMsg} (hb : s.link.buffer = m :: rest)
    (st : Status) (f : List Byte) : s.takeFront.answer m st f = s.setLink (s.link.answered rest m st f) := by
  unfold State.answer
  rw [State.takeFront_link, LinkState.joinReply_taken _ m rest st f hb]
  rfl

/-! ### Receiving -/

theorem State.goodMessage_joins {s : State} {m : LinkMsg} (hr : ∀ own later, s.link.inDispatch ≠ some (.restart own later))
    (hb : s.link.buffer.length < 4) : s.goodMessage m = s.bufferMessage m := by
  unfold State.goodMessage
  split
  · rename_i own later hw
    exact absurd hw (hr own later)
  · rw [if_pos hb]

theorem State.goodMessage_full {s : State} {m : LinkMsg} (hr : ∀ own later, s.link.inDispatch ≠ some (.restart own later))
    (hb : 4 ≤ s.link.buffer.length) : s.goodMessage m = s.setLink (s.link.busyReply m) := by
  unfold State.goodMessage
  split
  · rename_i own later hw
    exact absurd hw (hr own later)
  · rw [if_neg (by omega)]

/-- All that a good message can do while RESTART is in dispatch: nothing, one more BUSY that waits, or one more that is counted. -/
theorem LinkState.restartArrival_cases (k : LinkState) (own later : List Reply) (m : LinkMsg) :
    k.restartArrival own later m = k ∨
      (own ≠ [] ∧
        k.restartArrival own later m = { k with inDispatch := some (.restart own (later ++ [replyTo m .busy []])) }) ∨
      (own ≠ [] ∧ k.restartArrival own later m = { k with busyDrops := saturate16 (k.busyDrops + 1) }) := by
  unfold LinkState.restartArrival
  cases own with
  | nil => exact .inl rfl
  | cons r rs =>
    by_cases hk : k.replies.length < 8
    · exact .inr (.inl ⟨List.cons_ne_nil r rs, if_pos hk⟩)
    · exact .inr (.inr ⟨List.cons_ne_nil r rs, if_neg hk⟩)

/-- The bytes of two runs, one after the other. -/
theorem State.receiveAll_append (xs ys : List RxByte) (s : State) :
    s.receiveAll (xs ++ ys) = (s.receiveAll xs).receiveAll ys := by
  simp [State.receiveAll]

/-! ### Sending -/

theorem byteSum_cons (b : Byte) (bs : List Byte) : byteSum (b :: bs) = b + byteSum bs := by
  have h : ∀ (bs : List Byte) (x : Byte), bs.foldl (· + ·) x = x + bs.foldl (· + ·) 0 := by
    intro bs
    induction bs with
    | nil => intro x; simp
    | cons c cs ih => intro x; rw [List.foldl_cons, List.foldl_cons, ih, ih (0 + c)]; simp [BitVec.add_assoc]
  unfold byteSum
  rw [List.foldl_cons, h]
  simp

theorem byteSum_append (xs ys : List Byte) : byteSum (xs ++ ys) = byteSum xs + byteSum ys := by
  induction xs with
  | nil => simp [byteSum]
  | cons x xs ih => rw [List.cons_append, byteSum_cons, byteSum_cons, ih, BitVec.add_assoc]

/-- Every byte of a message after SOF sums to 0 (R169). -/
theorem byteSum_frameBytes (tag kind : Byte) (payload : List Byte) :
    byteSum ((frameBytes tag kind payload).drop 1) = 0 := by
  rw [frameBytes, List.cons_append, List.drop_succ_cons, List.drop_zero, byteSum_append, byteSum_cons (-_) []]
  simp [byteSum]

end Sys2Proof.Machine
end

