-- ==== Sys2Proof/Laws/Frames.lean ====
section
/-! SUPPORT. What each shared operation can change: one lemma for each, which names the parts of the state that it may change.
Every other part is as it was. -/

namespace Sys2Proof.Machine

set_option Elab.async false

/-! ### Parts and aspects of a state -/

/-- The sixteen fields of a state, seven aspects of them that most operations leave alone even where they change the field, and
three laws that they keep. -/
inductive Part where
  | link | zones | layers | zoneStacks | pattern | players | lines | wheel | bindings | cal | lanes | engine | sense
  | power | clocks | pending
  /-- The link's state but for its notices and the LOST flag. -/
  | traffic
  /-- Which layers are placed, in which zone and at which priority. -/
  | placement
  /-- The tracks' counts, chains and times, and the free-block list. -/
  | tracks
  /-- The lanes' node counts. -/
  | chains
  /-- The lanes that have a job queued or in progress. -/
  | jobs
  /-- The power state. -/
  | mode
  /-- The pending wake events. -/
  | events
  /-- The bounds of the link's queues. -/
  | bounds
  /-- The laws of the compose engine. -/
  | engineLaw
  /-- At most one pending wake event a line. -/
  | eventLaw
  deriving DecidableEq

/-- Where a layer is placed. -/
def LayerRec.place (x : LayerRec) : ZoneId × Nat := (x.zone, x.priority)

/-- The shape of a track. -/
def Track.shape (t : Track) : Nat × List BlockId × List Nat := (t.count, t.chain, t.times)

/-- The engine's laws (R135). -/
abbrev Engine.Lawful (e : Engine) : Prop := e.OneJobPerLane ∧ e.Busy

/-- The second state has a part as the first has it. -/
def State.Same (s t : State) : Part → Prop
  | .link => t.link = s.link
  | .zones => t.zones = s.zones
  | .layers => t.layers = s.layers
  | .zoneStacks => t.zoneStacks = s.zoneStacks
  | .pattern => t.pattern = s.pattern
  | .players => t.players = s.players
  | .lines => t.lines = s.lines
  | .wheel => t.wheel = s.wheel
  | .bindings => t.bindings = s.bindings
  | .cal => t.cal = s.cal
  | .lanes => t.lanes = s.lanes
  | .engine => t.engine = s.engine
  | .sense => t.sense = s.sense
  | .power => t.power = s.power
  | .clocks => t.clocks = s.clocks
  | .pending => t.pending = s.pending
  | .traffic => t.link = { s.link with notices := t.link.notices, lost := t.link.lost }
  | .placement => ∀ l : LayerId, t.layers[l].map LayerRec.place = s.layers[l].map LayerRec.place
  | .tracks => t.pattern.free = s.pattern.free ∧
      ∀ k : TrackId, t.pattern.tracks[k].map Track.shape = s.pattern.tracks[k].map Track.shape
  | .chains => ∀ l : LaneId, t.lanes[l].nodeCount = s.lanes[l].nodeCount
  | .jobs => t.engine.lanes = s.engine.lanes
  | .mode => t.power.state = s.power.state
  | .events => t.power.events = s.power.events
  | .bounds => s.link.Bounded → t.link.Bounded
  | .engineLaw => s.engine.Lawful → t.engine.Lawful
  | .eventLaw => s.power.OnePerLine → t.power.OnePerLine

/-- Going from the first state to the second changes nothing but these parts. -/
def State.ChangesOnly (ps : List Part) (s t : State) : Prop := ∀ p, p ∉ ps → s.Same t p

theorem State.Same.rfl' (s : State) (p : Part) : s.Same s p := by
  cases p <;> simp [State.Same]

theorem State.Same.trans {s t u : State} {p : Part} (h : s.Same t p) (k : t.Same u p) : s.Same u p := by
  cases p
  case traffic => exact Eq.trans k (by rw [show t.link = _ from h])
  case placement => exact fun l => (k l).trans (h l)
  case tracks => exact ⟨k.1.trans h.1, fun x => (k.2 x).trans (h.2 x)⟩
  case chains => exact fun l => (k l).trans (h l)
  case bounds => exact fun x => k (h x)
  case engineLaw => exact fun x => k (h x)
  case eventLaw => exact fun x => k (h x)
  all_goals exact Eq.trans k h

theorem State.ChangesOnly.refl (s : State) (ps : List Part) : s.ChangesOnly ps s := fun p _ => State.Same.rfl' s p

theorem State.ChangesOnly.mono {ps qs : List Part} {s t : State} (h : s.ChangesOnly ps t)
    (hs : ps.all (fun p => qs.contains p) = true := by decide) : s.ChangesOnly qs t := by
  intro p hp
  refine h p fun hm => hp ?_
  simpa using List.all_eq_true.1 hs p hm

theorem State.ChangesOnly.trans {ps qs rs : List Part} {s t u : State} (h : s.ChangesOnly ps t)
    (k : t.ChangesOnly qs u) (hp : ps.all (fun p => rs.contains p) = true := by decide)
    (hq : qs.all (fun p => rs.contains p) = true := by decide) : s.ChangesOnly rs u :=
  fun p hn => (h.mono hp p hn).trans (k.mono hq p hn)

/-- A run of steps that each change only these parts. -/
theorem State.ChangesOnly.foldl {α : Type} {ps : List Part} {f : State → α → State}
    (h : ∀ (s : State) (a : α), s.ChangesOnly ps (f s a)) : ∀ (xs : List α) (s : State), s.ChangesOnly ps (xs.foldl f s) := by
  intro xs
  induction xs with
  | nil => exact fun s => .refl s ps
  | cons x xs ih => exact fun s p hn => (h s x p hn).trans (ih (f s x) p hn)

/-- A choice between two steps. -/
theorem State.ChangesOnly.ite {ps : List Part} {c : Prop} [Decidable c] {s t u : State} (h : s.ChangesOnly ps t)
    (k : s.ChangesOnly ps u) : s.ChangesOnly ps (if c then t else u) := by
  split
  · exact h
  · exact k

/-! ### Updates of one field -/

namespace State.ChangesOnly

variable (s : State)

theorem setZone (z : ZoneId) (x : ZoneRec) : s.ChangesOnly [.zones] (s.setZone z x) := by
  intro p hp; cases p <;> first | exact absurd (by decide) hp | simp [State.Same]

theorem setLayer (l : LayerId) (x : Option LayerRec) : s.ChangesOnly [.layers, .placement] (s.setLayer l x) := by
  intro p hp; cases p <;> first | exact absurd (by decide) hp | simp [State.Same]

/-- A layer changed without moving it. -/
theorem setPlaced {l : LayerId} {x : Option LayerRec} (h : x.map LayerRec.place = s.layers[l].map LayerRec.place) :
    s.ChangesOnly [.layers] (s.setLayer l x) := by
  intro p hp
  cases p
  case placement =>
    intro k
    rw [State.setLayer_layers, Tab.get_put]
    split
    · next e => rw [← e]; exact h
    · rfl
  all_goals first | exact absurd (by decide) hp | simp [State.Same]

theorem setStack (z : ZoneId) (x : List LayerId) : s.ChangesOnly [.zoneStacks] (s.setStack z x) := by
  intro p hp; cases p <;> first | exact absurd (by decide) hp | simp [State.Same]

theorem setPlayer (i : PlayerId) (x : Player) : s.ChangesOnly [.players] (s.setPlayer i x) := by
  intro p hp; cases p <;> first | exact absurd (by decide) hp | simp [State.Same]

theorem setLine (i : LineId) (x : LineRec) : s.ChangesOnly [.lines] (s.setLine i x) := by
  intro p hp; cases p <;> first | exact absurd (by decide) hp | simp [State.Same]

theorem setBinding (i : BindingId) (x : Option Binding) : s.ChangesOnly [.bindings] (s.setBinding i x) := by
  intro p hp; cases p <;> first | exact absurd (by decide) hp | simp [State.Same]

theorem setLane (l : LaneId) (x : Lane) : s.ChangesOnly [.lanes, .chains] (s.setLane l x) := by
  intro p hp; cases p <;> first | exact absurd (by decide) hp | simp [State.Same]

/-- A lane changed without changing its chain. -/
theorem setLaneOf {l : LaneId} {x : Lane} (h : x.nodeCount = s.lanes[l].nodeCount) :
    s.ChangesOnly [.lanes] (s.setLane l x) := by
  intro p hp
  cases p
  case chains =>
    intro k
    rw [State.setLane_lanes, Tab.get_put]
    split
    · next e => rw [← e]; exact h
    · rfl
  all_goals first | exact absurd (by decide) hp | simp [State.Same]

theorem setPattern (x : PatternMemory) : s.ChangesOnly [.pattern, .tracks] (s.setPattern x) := by
  intro p hp; cases p <;> first | exact absurd (by decide) hp | simp [State.Same]

theorem setLink (x : LinkState) : s.ChangesOnly [.link, .traffic, .bounds] (s.setLink x) := by
  intro p hp; cases p <;> first | exact absurd (by decide) hp | simp [State.Same]

/-- The link changed within its bounds. -/
theorem setLinkOf {x : LinkState} (h : s.link.Bounded → x.Bounded) : s.ChangesOnly [.link, .traffic] (s.setLink x) := by
  intro p hp
  cases p
  case bounds => exact h
  all_goals first | exact absurd (by decide) hp | simp [State.Same]

theorem setEngine (x : Engine) : s.ChangesOnly [.engine, .jobs, .engineLaw] (s.setEngine x) := by
  intro p hp; cases p <;> first | exact absurd (by decide) hp | simp [State.Same]

/-- The engine changed with the same lanes in it. -/
theorem setEngineOf {x : Engine} (h : x.lanes = s.engine.lanes) (hb : s.engine.Busy → x.Busy) :
    s.ChangesOnly [.engine] (s.setEngine x) := by
  intro p hp
  cases p
  case jobs => exact h
  case engineLaw => exact fun k => ⟨by show x.lanes.Nodup; rw [h]; exact k.1, hb k.2⟩
  all_goals first | exact absurd (by decide) hp | simp [State.Same]

theorem setSense (x : SenseMonitor) : s.ChangesOnly [.sense] (s.setSense x) := by
  intro p hp; cases p <;> first | exact absurd (by decide) hp | simp [State.Same]

theorem setPower (x : PowerCtl) : s.ChangesOnly [.power, .mode, .events, .eventLaw] (s.setPower x) := by
  intro p hp; cases p <;> first | exact absurd (by decide) hp | simp [State.Same]

/-- The power controller changed with the same pending events. -/
theorem setPowerOf {x : PowerCtl} (h : x.events = s.power.events) : s.ChangesOnly [.power, .mode] (s.setPower x) := by
  intro p hp
  cases p
  case events => exact h
  case eventLaw => exact fun k => by show (x.events.map LineEvent.line).Nodup; rw [h]; exact k
  all_goals first | exact absurd (by decide) hp | simp [State.Same]

/-- The pending events changed in the same power state. -/
theorem setEvents {x : PowerCtl} (h : x.state = s.power.state) (hl : s.power.OnePerLine → x.OnePerLine) :
    s.ChangesOnly [.power, .events] (s.setPower x) := by
  intro p hp
  cases p
  case mode => exact h
  case eventLaw => exact hl
  all_goals first | exact absurd (by decide) hp | simp [State.Same]

theorem setClocks (x : Clocks) : s.ChangesOnly [.clocks] (s.setClocks x) := by
  intro p hp; cases p <;> first | exact absurd (by decide) hp | simp [State.Same]

theorem setCal (x : CalStore) : s.ChangesOnly [.cal] (s.setCal x) := by
  intro p hp; cases p <;> first | exact absurd (by decide) hp | simp [State.Same]

theorem setWheel (x : Wheel) : s.ChangesOnly [.wheel] (s.setWheel x) := by
  intro p hp; cases p <;> first | exact absurd (by decide) hp | simp [State.Same]

/-! ### Operations of every family -/

theorem clockTo (t : Nat) : s.ChangesOnly [.clocks] (s.clockTo t) := setClocks s _

theorem post (k : NoticeKind) (f : List Byte) : s.ChangesOnly [.link] (s.post k f) := by
  intro p hp
  cases p
  case traffic => exact s.link.post_eq k f
  case bounds => exact fun h => LinkState.post_bounded h k f
  all_goals first | exact absurd (by decide) hp | simp [State.Same]

theorem postAll (ns : List Notice) : s.ChangesOnly [.link] (s.postAll ns) :=
  foldl (f := fun s (n : Notice) => s.post n.kind n.fields) (fun s n => post s n.kind n.fields) ns s

theorem answer (m : LinkMsg) (st : Status) (f : List Byte) : s.ChangesOnly [.link, .traffic] (s.answer m st f) :=
  setLinkOf s fun h => LinkState.joinReply_bounded h _

theorem refuse (m : LinkMsg) (st : Status) : s.ChangesOnly [.link, .traffic] (s.refuse m st) := answer s m st _

theorem ok (m : LinkMsg) (f : List Byte) : s.ChangesOnly [.link, .traffic] (s.ok m f) := answer s m _ f

theorem hold (d : Dispatched) : s.ChangesOnly [.link, .traffic] (s.hold d) := setLinkOf s id

theorem takeFront : s.ChangesOnly [.link, .traffic] s.takeFront :=
  setLinkOf s fun h => ⟨by rw [List.length_drop]; have := h.1; omega, h.2⟩

/-- A dispatch changes what its own rule changes, and the link. -/
theorem dispatch {ps : List Part} {kind : Byte} {len : List Byte → Bool} {waking : Bool} {body : LinkMsg → State → State}
    (h : ∀ (m : LinkMsg) (t : State), t.ChangesOnly ps (body m t)) :
    s.ChangesOnly (.link :: .traffic :: ps) (s.dispatch kind len waking body) := by
  have link : ∀ t : State, s.ChangesOnly [.link, .traffic] t → s.ChangesOnly (.link :: .traffic :: ps) t := by
    intro t ht p hp
    exact ht p fun hm => hp (by simp only [List.mem_cons, List.not_mem_nil, or_false] at hm ⊢; tauto)
  rcases s.dispatch_cases kind len waking body with e | ⟨m, _, e | e | ⟨_, e⟩⟩ <;> rw [e]
  · exact refl s _
  · exact link _ ((takeFront s).trans (refuse _ m _))
  · exact link _ ((takeFront s).trans (refuse _ m _))
  · intro p hp
    exact (link _ (takeFront s) p hp).trans (h m s.takeFront p fun hm => hp (by simp [hm]))

/-! ### Layers -/

theorem placeLayer (a : LayerPlaceArgs) : s.ChangesOnly [.layers, .placement, .zoneStacks] (s.placeLayer a) :=
  (setStack s _ _).trans (setLayer _ _ _)

theorem liftLayer (l : LayerId) : s.ChangesOnly [.layers, .placement, .zoneStacks] (s.liftLayer l) := by
  unfold State.liftLayer
  split
  · exact refl s _
  · exact (setStack s _ _).trans (setLayer _ _ _)

theorem fadeCommand {change : LayerRec → LayerRec} (h : ∀ x, (change x).place = x.place) (m : LinkMsg) :
    s.ChangesOnly [.layers, .link, .traffic] (s.fadeCommand change m) := by
  unfold State.fadeCommand
  split
  · exact (refuse s m _).mono
  · split
    · exact (refuse s m _).mono
    · next x hx => exact (setPlaced s (by rw [hx]; simp [h])).trans (ok _ m _)

/-! ### Pattern memory and calibration -/

theorem reportMismatch (k : TrackId) (i : Nat) : s.ChangesOnly [.pattern, .link] (s.reportMismatch k i) := by
  unfold State.reportMismatch
  split
  · exact refl s _
  · next t ht =>
    have put : s.ChangesOnly [.pattern] (s.setPattern (s.pattern.putTrack k (some (t.report i).1))) := by
      intro p hp
      cases p
      case tracks =>
        refine ⟨rfl, fun j => ?_⟩
        show ((s.pattern.tracks.put k (some (t.report i).1))[j]).map Track.shape = _
        rw [Tab.get_put]
        split
        · next e =>
          rw [← e, ht]
          unfold Track.report
          split_ifs <;> rfl
        · rfl
      all_goals first | exact absurd (by decide) hp | simp [State.Same]
    dsimp only
    split
    · exact put.trans (post _ _ _)
    · exact put.mono

theorem reportAll (found : List (TrackId × Nat)) : s.ChangesOnly [.pattern, .link] (s.reportAll found) :=
  foldl (f := fun s (x : TrackId × Nat) => s.reportMismatch x.1 x.2) (fun s x => reportMismatch s x.1 x.2) found s

theorem finishKeysWrite (m : LinkMsg) (a : KeysWriteArgs) :
    s.ChangesOnly [.pattern, .tracks, .link, .traffic] (s.finishKeysWrite m a) := by
  unfold State.finishKeysWrite
  split
  · exact refl s _
  · exact (setPattern s _).trans (ok _ m _)

theorem finishCal (m : LinkMsg) (w : SetId) (x : CalSet) : s.ChangesOnly [.cal, .link, .traffic] (s.finishCal m w x) :=
  (setCal s _).trans (ok _ m _)

/-! ### Players and triggers -/

theorem startPlayer (p : PlayerId) : s.ChangesOnly [.players, .link] (s.startPlayer p) :=
  (setPlayer s p _).trans (postAll _ _)

theorem act (a : BindAction) : s.ChangesOnly [.players, .layers, .link] (s.act a).1 := by
  rcases a with p | p | p | l | l <;> unfold State.act <;> dsimp only
  · split
    · exact refl s _
    · exact (startPlayer s p).mono
  · split_ifs
    · exact refl s _
    · exact refl s _
    · exact (setPlayer s p _).mono
  · split
    · exact refl s _
    · exact (setPlayer s p _).mono
  · split
    · exact refl s _
    · next x hx => exact (setPlaced s (by rw [hx]; cases h : x.state <;> simp [LayerRec.shown, LayerRec.place, h])).mono
  · split
    · exact refl s _
    · next x hx => exact (setPlaced s (by rw [hx]; cases h : x.state <;> simp [LayerRec.hidden, LayerRec.place, h])).mono

theorem handBinding (n : Tally) (i : BindingId) (b : Binding) :
    s.ChangesOnly [.players, .layers, .link] (s.handBinding n i b).1 := by
  have h := act s b.action
  unfold State.handBinding
  split
  · next e => rw [e] at h; exact h
  · next e => rw [e] at h; exact h.trans (post _ _ _)

theorem handAll (src : SourceId) : ∀ (is : List BindingId) (s : State) (n : Tally),
    s.ChangesOnly [.players, .layers, .link] (s.handAll n src is).1 := by
  intro is
  induction is with
  | nil => exact fun s n => refl s _
  | cons i is ih =>
    intro s n
    unfold State.handAll
    split
    · exact ih s n
    · exact (handBinding s n i _).trans (ih _ _)

theorem applyCounted (src : SourceId) : s.ChangesOnly [.players, .layers, .link] (s.applyCounted src).1 :=
  handAll src _ s _

theorem applyEvent (src : SourceId) : s.ChangesOnly [.players, .layers, .link] (s.applyEvent src) := applyCounted s src

theorem enterWaking (c : WakeCause) : s.ChangesOnly [.power, .mode] (s.enterWaking c) := setPowerOf s rfl

theorem wakeByMessage : s.ChangesOnly [.power, .mode, .clocks] s.wakeByMessage := (enterWaking s _).trans (setClocks _ _)

theorem holdEvent (e : LineEvent) : s.ChangesOnly [.power, .events] (s.setPower (s.power.holdEvent e)) :=
  setEvents s (by unfold PowerCtl.holdEvent; split <;> rfl) fun h => by
    unfold PowerCtl.holdEvent
    split
    · exact h
    · next hn =>
      show ((s.power.events ++ [e]).map LineEvent.line).Nodup
      rw [List.map_append, List.nodup_append]
      refine ⟨h, List.nodup_singleton _, fun a ha b hb => ?_⟩
      obtain ⟨d, hd, rfl⟩ := List.mem_map.1 ha
      rw [List.mem_singleton.1 hb]
      intro e'
      exact hn (List.any_eq_true.2 ⟨d, hd, by simpa using e'⟩)

theorem lineEvent (e : LineEvent) :
    s.ChangesOnly [.players, .layers, .link, .power, .mode, .events, .clocks] (s.lineEvent e) := by
  unfold State.lineEvent
  split
  · exact (applyEvent s _).mono
  · exact (applyEvent s _).mono
  · split
    · exact (holdEvent s e).mono
    · exact refl s _
  · split
    · exact ((holdEvent s e).trans (rs := [.power, .mode, .events]) (enterWaking _ _)).trans (setClocks _ _)
    · exact refl s _

theorem sampleLine (i : LineId) (v : Bool) :
    s.ChangesOnly [.lines, .players, .layers, .link, .power, .mode, .events, .clocks] (s.sampleLine i v) := by
  unfold State.sampleLine
  dsimp only
  split
  · exact (setLine s i _).mono
  · split
    · exact (setLine s i _).trans (lineEvent _ _)
    · exact (setLine s i _).mono

theorem detent (d : WheelDir) : s.ChangesOnly [.cal, .wheel, .players, .layers, .link] (s.detent d) := by
  unfold State.detent
  split
  · exact refl s _
  · next i _ =>
    dsimp only
    have h : s.ChangesOnly [.cal, .wheel] ((s.setWheelIndex i).setWheel { s.wheel with lastDir := some d }) :=
      (setCal s _).trans (setWheel _ _)
    refine State.ChangesOnly.trans (ps := [.cal, .wheel, .players, .layers, .link]) ?_ (applyEvent _ _)
    split
    · exact h.mono
    · split
      · exact h.mono
      · exact h.trans (applyEvent _ _)

theorem sampleWheel (pair : BitVec 2) : s.ChangesOnly [.cal, .wheel, .players, .layers, .link] (s.sampleWheel pair) := by
  unfold State.sampleWheel
  split
  · exact refl s _
  · dsimp only
    split
    · exact (setWheel s _).mono
    · exact (setWheel s _).trans (detent _ _)

end State.ChangesOnly

end Sys2Proof.Machine
end

