-- ==== Sys2Proof/Laws/LaneFrames.lean ====
section
/-! SUPPORT. What the operations of the lanes, the compose engine, the sense monitor and the power controller can change. -/

namespace Sys2Proof.Machine

set_option Elab.async false

/-! ### What lane operations keep of a lane -/

@[simp] theorem Lane.closeFeed_nodeCount (x : Lane) : x.closeFeed.nodeCount = x.nodeCount := rfl
@[simp] theorem Lane.pause_nodeCount (x : Lane) : x.pause.nodeCount = x.nodeCount := rfl
@[simp] theorem Lane.renew_nodeCount (x : Lane) (t : Nat) : (x.renew t).nodeCount = x.nodeCount := rfl
@[simp] theorem Lane.recordSlot_nodeCount (x : Lane) (p : Nat) (e : Entry) : (x.recordSlot p e).nodeCount = x.nodeCount := rfl
@[simp] theorem Lane.recordFrame_nodeCount (x : Lane) (es : List Entry) : (x.recordFrame es).nodeCount = x.nodeCount := rfl
@[simp] theorem Lane.beginFed_nodeCount (x : Lane) (t : Nat) (b : Bool) : (x.beginFed t b).nodeCount = x.nodeCount := rfl
@[simp] theorem Lane.frameOver_nodeCount (x : Lane) : x.frameOver.nodeCount = x.nodeCount := rfl
@[simp] theorem Lane.toSleep_nodeCount (x : Lane) : x.toSleep.nodeCount = x.nodeCount := rfl
@[simp] theorem Lane.afterRead_nodeCount (x : Lane) (c : Bool) : (x.afterRead c).nodeCount = x.nodeCount := rfl
@[simp] theorem Lane.clearFaults_nodeCount (x : Lane) : x.clearFaults.nodeCount = x.nodeCount := rfl

@[simp] theorem Lane.beginKnown_nodeCount (x : Lane) (t : Nat) (b : Bool) (es : List Entry) :
    (x.beginKnown t b es).nodeCount = x.nodeCount := by
  unfold Lane.beginKnown
  cases x.latency <;> rfl

@[simp] theorem Lane.takeEntry_nodeCount (x : Lane) (p r : Nat) (e : Entry) :
    (x.takeEntry p r e).nodeCount = x.nodeCount := by
  unfold Lane.takeEntry
  split
  · rfl
  · split <;> rfl

/-! ### The engine -/

@[simp] theorem Engine.markStale_lanes (e : Engine) (l : LaneId) : (e.markStale l).lanes = e.lanes := by
  unfold Engine.markStale Engine.lanes
  have h : ∀ r : Request, Request.lane (if r.lane = l then { r with stale := true } else r) = r.lane := by
    intro r; split <;> rfl
  have k : ∀ j : Job, Job.lane (if j.lane = l then { j with stale := true } else j) = j.lane := by
    intro j; split <;> rfl
  rw [List.map_map, Option.map_map]
  congr 1
  · exact List.map_congr_left fun r _ => h r
  · congr 1
    exact Option.map_congr fun j _ => k j

theorem Engine.outstanding_iff (e : Engine) (l : LaneId) : e.outstanding l = true ↔ l ∈ e.lanes := by
  unfold Engine.outstanding Engine.lanes
  cases e.job <;> simp only [Bool.or_eq_true, List.any_eq_true, decide_eq_true_eq, Option.any_none, Option.any_some,
    Bool.false_eq_true, or_false, Option.map_none, Option.map_some, Option.toList_none, Option.toList_some,
    List.append_nil, List.mem_append, List.mem_map, List.mem_singleton]
  rw [eq_comm (a := l)]

@[simp] theorem State.newJob_lane (s : State) (r : Request) : (s.newJob r).lane = r.lane := rfl

@[simp] theorem Engine.markStale_busy (e : Engine) (l : LaneId) (h : e.Busy) : (e.markStale l).Busy := by
  intro hj
  unfold Engine.markStale at hj ⊢
  have := h (Option.map_eq_none_iff.1 hj)
  simp only [this, List.map_nil]

/-- The job that hands over the entry of a slot is the job in progress, and its next node is the slot's, ready by its due time. -/
theorem State.jobMet_eq_some {s : State} {l : LaneId} {f : Frame} {j : Job} : s.jobMet l f = some j ↔
    s.engine.job = some j ∧ (f.fed = true ∧ f.closed = false ∧ f.slots.getD f.nextSlot none = none) ∧
      j.meets l f.nextSlot (s.lanes[l].slotStart f f.nextSlot) = true := by
  unfold State.jobMet
  split
  · next h => simp_all [Option.filter_eq_some_iff]
  · next h => simp_all

/-- A slot that no job meets leaves the engine, and all else, to the slot. -/
theorem State.reachNode_none {s : State} {l : LaneId} {f : Frame} (h : s.jobMet l f = none) : s.reachNode l f = s := by
  unfold State.reachNode
  rw [h]

theorem State.reachNode_some {s : State} {l : LaneId} {f : Frame} {j : Job} (h : s.jobMet l f = some j) :
    s.reachNode l f = s.setEngine { s.engine with job := some { j with reached := some (s.nextNode j) } } := by
  unfold State.reachNode
  rw [h]

/-- What a job has reached stays what it composes next, whatever is read or written before its NODE_COMPOSE step (R32). -/
theorem State.nextNode_reached {s : State} {j : Job} {r : RGB × List (TrackId × Nat)} (h : j.reached = some r) :
    s.nextNode j = r := by
  unfold State.nextNode
  rw [h]
  rfl

/-- Starting a job changes which lanes have one only in their order. -/
theorem State.startJob_lanes (s : State) : s.startJob.engine.lanes.Perm s.engine.lanes := by
  unfold State.startJob
  split
  · next r rest hj hq =>
    simp only [State.setEngine_engine, Engine.lanes, hj, hq, Option.map_some, Option.map_none, Option.toList_some,
      Option.toList_none, State.newJob_lane, List.map_cons, List.append_nil]
    exact List.perm_append_singleton _ _
  · exact List.Perm.refl _

/-- With one job a lane, starting a job meets both laws. -/
theorem State.startJob_lawful {s : State} (h : s.engine.OneJobPerLane) : s.startJob.engine.Lawful := by
  refine ⟨s.startJob_lanes.nodup_iff.2 h, ?_⟩
  unfold State.startJob
  split
  · exact fun hj => absurd hj (by simp)
  · next hn =>
    intro hj
    cases hq : s.engine.queue with
    | nil => rfl
    | cons r rest => exact absurd hq (hn r rest hj)

/-- A request that finds the lane with no job keeps one job a lane. -/
theorem Engine.request_oneJob {e : Engine} {l : LaneId} (h : e.OneJobPerLane) (ho : ¬e.outstanding l = true) :
    Engine.OneJobPerLane { e with queue := e.queue ++ [⟨l, false⟩] } := by
  rw [Engine.outstanding_iff] at ho
  have hp : (Engine.lanes { e with queue := e.queue ++ [⟨l, false⟩] }).Perm (l :: e.lanes) := by
    unfold Engine.lanes
    rw [List.map_append, List.append_assoc]
    exact List.perm_middle
  exact hp.nodup_iff.2 (List.nodup_cons.2 ⟨ho, h⟩)

namespace State.ChangesOnly

variable (s : State)

/-! ### Jobs and frames -/

theorem startJob : s.ChangesOnly [.engine, .jobs] s.startJob := by
  have h : s.ChangesOnly [.engine, .jobs, .engineLaw] s.startJob := by
    unfold State.startJob
    split
    · exact setEngine s _
    · exact refl s _
  intro p hp
  by_cases he : p = .engineLaw
  · subst he; exact fun k => State.startJob_lawful k.1
  · exact h p (by simp_all)

theorem request (l : LaneId) : s.ChangesOnly [.engine, .jobs] (s.request l) := by
  unfold State.request
  split
  · exact refl s _
  · next ho =>
    have h : s.ChangesOnly [.engine, .jobs, .engineLaw]
        (s.setEngine { s.engine with queue := s.engine.queue ++ [⟨l, false⟩] }).startJob :=
      (setEngine s _).trans (startJob _)
    intro p hp
    by_cases he : p = .engineLaw
    · subst he; exact fun k => State.startJob_lawful (Engine.request_oneJob k.1 ho)
    · exact h p (by simp_all)

theorem beginFrame (l : LaneId) (es : List Entry) : s.ChangesOnly [.lanes] (s.beginFrame l es) :=
  setLaneOf s (by simp)

theorem beginDark (l : LaneId) : s.ChangesOnly [.lanes] (s.beginDark l) := by
  unfold State.beginDark
  split
  · exact refl s _
  · exact (beginFrame s l _).trans (setLaneOf _ (by rfl))

theorem darkNowOrNext (l : LaneId) : s.ChangesOnly [.lanes] (s.darkNowOrNext l) := by
  unfold State.darkNowOrNext
  split
  · exact setLaneOf s (by rfl)
  · exact beginDark s l

theorem underrun (l : LaneId) (n : Nat) (b : Bool) : s.ChangesOnly [.lanes, .link] (s.underrun l n b) := by
  unfold State.underrun
  dsimp only
  split_ifs
  · exact refl s _
  · exact State.ChangesOnly.trans (ps := [.lanes]) (setLaneOf s (by rfl)) (post _ _ _)
  · exact State.ChangesOnly.mono (ps := [.lanes]) (setLaneOf s (by rfl))

theorem reachNode (l : LaneId) (f : Frame) : s.ChangesOnly [.engine] (s.reachNode l f) := by
  unfold State.reachNode
  split
  · exact refl s _
  · next j hj =>
    have hj := (State.jobMet_eq_some.1 hj).1
    exact setEngineOf s (by simp only [Engine.lanes, hj, Option.map_some]) fun _ hn => absurd hn (by simp)

theorem sendSlot (l : LaneId) : s.ChangesOnly [.engine, .lanes, .link] (s.sendSlot l) := by
  unfold State.sendSlot
  split
  · exact refl s _
  · next f _ =>
    split
    · dsimp only
      have h : ∀ x : Lane, x.nodeCount = (s.reachNode l f).lanes[l].nodeCount →
          s.ChangesOnly [.engine, .lanes] ((s.reachNode l f).setLane l x) := fun x hx =>
        (reachNode s l f).trans (qs := [.lanes]) (setLaneOf _ hx)
      have hl : (s.reachNode l f).lanes = s.lanes := reachNode s l f .lanes (by decide)
      split
      · exact (h _ (by rw [hl]; rfl)).trans (underrun _ _ _ _)
      · exact (h _ (by rw [hl]; rfl)).mono
    · exact refl s _

theorem sendSlots (l : LaneId) : ∀ (n : Nat) (s : State), s.ChangesOnly [.engine, .lanes, .link] (State.sendSlots l n s) := by
  intro n
  induction n with
  | zero => exact fun s => refl s _
  | succ n ih => exact fun s => (sendSlot s l).trans (ih _)

/-! ### Enabling, resuming, ticks -/

theorem firstRequest (l : LaneId) : s.ChangesOnly [.engine, .jobs] (s.firstRequest l) := by
  unfold State.firstRequest
  split
  · exact request s l
  · exact refl s _

theorem enableLane (l : LaneId) : s.ChangesOnly [.lanes, .engine, .jobs] (s.enableLane l) :=
  State.ChangesOnly.trans (ps := [.lanes]) (setLaneOf s (by rfl)) (firstRequest _ l)

theorem darkOnResume (l : LaneId) : s.ChangesOnly [.lanes] (s.darkOnResume l) := by
  unfold State.darkOnResume
  split
  · exact darkNowOrNext s l
  · exact refl s _

theorem resumeLane (l : LaneId) : s.ChangesOnly [.lanes, .engine, .jobs] (s.resumeLane l) :=
  State.ChangesOnly.trans (ps := [.lanes, .engine, .jobs])
    (State.ChangesOnly.trans (ps := [.engine]) (setEngineOf s (by simp) (Engine.markStale_busy _ l)) (enableLane _ l)) (darkOnResume _ l)

theorem resumeWhere (first : List LaneId) (which : LaneState → Bool) :
    s.ChangesOnly [.lanes, .engine, .jobs] (s.resumeWhere first which) := by
  refine foldl (f := fun t l => if which t.lanes[l].state then t.resumeLane l else t) (fun t l => ?_) _ s
  split
  · exact resumeLane t l
  · exact refl t _

theorem sendBack (l : LaneId) : s.ChangesOnly [.lanes] (s.sendBack l) := by
  unfold State.sendBack
  dsimp only
  split
  · exact setLaneOf s (by rfl)
  · exact State.ChangesOnly.trans (ps := [.lanes]) (setLaneOf s (by rfl)) (beginFrame _ l _)

theorem tickBuffered (l : LaneId) : s.ChangesOnly [.lanes, .link, .engine, .jobs] (s.tickBuffered l) := by
  unfold State.tickBuffered
  split_ifs
  · exact (sendBack s l).trans (request _ l)
  · exact (beginFrame s l _).trans (underrun _ l _ _)
  · exact refl s _

theorem tickDirect (l : LaneId) : s.ChangesOnly [.lanes, .link, .engine, .jobs] (s.tickDirect l) := by
  unfold State.tickDirect
  dsimp only
  split_ifs
  · exact (beginFrame s l _).trans (underrun _ l _ _)
  · exact (beginFrame s l _).mono
  · exact State.ChangesOnly.trans (ps := [.lanes]) (setLaneOf s (by rfl)) (request _ l)

theorem tickLane (l : LaneId) : s.ChangesOnly [.lanes, .link, .engine, .jobs] (s.tickLane l) := by
  unfold State.tickLane
  dsimp only
  split
  · split
    · split_ifs
      · exact State.ChangesOnly.mono (ps := [.lanes]) (setLaneOf s (by rfl))
      · exact tickBuffered s l
      · exact tickDirect s l
    · split
      · exact State.ChangesOnly.mono (ps := [.lanes]) (setLaneOf s (by rfl))
      · exact refl s _
    · exact refl s _
    · exact refl s _
  · exact refl s _

/-! ### The entry to STANDBY -/

theorem enterStandby (m : LinkMsg) (dark : Bool) :
    s.ChangesOnly [.power, .mode, .wheel, .link, .traffic, .clocks] (s.enterStandby m dark) := by
  unfold State.enterStandby
  have h : s.ChangesOnly [.power, .mode, .wheel, .link, .traffic]
      (((((s.setPower { s.power with state := .standby }).setWheel { s.wheel with resync := true }).ok m
        (u8 (finishCode dark))).post .standbyEntered (u8 (finishCode dark) ++ u8 s.enabledLanes))) :=
    State.ChangesOnly.trans (ps := [.power, .mode, .wheel, .link, .traffic])
      (State.ChangesOnly.trans (ps := [.power, .mode, .wheel])
        (State.ChangesOnly.trans (ps := [.power, .mode]) (setPowerOf s (by rfl)) (setWheel _ _)) (ok _ m _)) (post _ _ _)
  dsimp only
  split
  · exact h.mono
  · exact h.trans (wakeByMessage _)

theorem standbyCheck : s.ChangesOnly [.power, .mode, .wheel, .link, .traffic, .clocks] s.standbyCheck := by
  unfold State.standbyCheck
  split
  · split
    · exact enterStandby s _ _
    · exact refl s _
  · exact refl s _

/-! ### Ends of frames and of jobs -/

theorem recordAnswer (l : LaneId) (a : BitVec 24) : s.ChangesOnly [.lanes, .link] (s.recordAnswer l a) := by
  unfold State.recordAnswer
  dsimp only
  split
  · exact State.ChangesOnly.trans (ps := [.lanes]) (setLaneOf s (by rfl)) (post _ _ _)
  · exact State.ChangesOnly.mono (ps := [.lanes]) (setLaneOf s (by rfl))

theorem payDark (l : LaneId) : s.ChangesOnly [.lanes] (s.payDark l) := by
  unfold State.payDark
  split
  · exact State.ChangesOnly.trans (ps := [.lanes]) (setLaneOf s (by rfl)) (beginDark _ l)
  · exact refl s _

theorem stopIfDone (l : LaneId) : s.ChangesOnly [.lanes, .link, .traffic] (s.stopIfDone l) := by
  unfold State.stopIfDone
  split
  · have h : s.ChangesOnly [.lanes] (s.setLane l { s.lanes[l] with state := .disabled, soloDue := none }) :=
      setLaneOf s (by rfl)
    dsimp only
    split
    · split
      · exact h.trans (ok _ _ _)
      · exact h.mono
    · exact h.mono
  · exact refl s _

theorem endFrame (l : LaneId) (f : Frame) (a : BitVec 24) :
    s.ChangesOnly [.clocks, .engine, .lanes, .link, .traffic] (s.endFrame l f a) := by
  unfold State.endFrame
  dsimp only
  refine State.ChangesOnly.trans (ps := [.clocks, .engine, .lanes, .link]) ?_ (stopIfDone _ l)
  refine State.ChangesOnly.trans (ps := [.clocks, .engine, .lanes, .link]) ?_ (payDark _ l)
  refine State.ChangesOnly.trans (ps := [.clocks, .engine, .lanes, .link]) (qs := [.lanes]) ?_ (setLaneOf _ (by rfl))
  exact State.ChangesOnly.trans (ps := [.clocks, .engine, .lanes, .link])
    ((clockTo s _).trans (sendSlots l _ _)) (recordAnswer _ l a)

theorem takeResult (j : Job) : s.ChangesOnly [.lanes] (s.takeResult j) := by
  unfold State.takeResult
  dsimp only
  split
  · split
    · exact setLaneOf s (by rfl)
    · split
      · exact refl s _
      · exact setLaneOf s (by rfl)
  · exact refl s _

theorem applyHeld : s.ChangesOnly [.pattern, .tracks, .cal, .link, .traffic] s.applyHeld := by
  unfold State.applyHeld
  split
  · split
    · exact refl s _
    · exact (finishKeysWrite s _ _).mono
  · split
    · exact refl s _
    · exact (finishCal s _ _ _).mono
  · exact refl s _

theorem completeJob (j : Job) :
    s.ChangesOnly [.clocks, .lanes, .engine, .jobs, .pattern, .tracks, .cal, .link, .traffic, .power, .mode, .wheel]
      (s.completeJob j) := by
  have h : s.ChangesOnly
      [.clocks, .lanes, .engine, .jobs, .engineLaw, .pattern, .tracks, .cal, .link, .traffic, .power, .mode, .wheel]
      (s.completeJob j) := by
    unfold State.completeJob
    dsimp only
    refine State.ChangesOnly.trans
      (ps := [.clocks, .lanes, .engine, .jobs, .engineLaw, .pattern, .tracks, .cal, .link, .traffic]) ?_ (standbyCheck _)
    refine State.ChangesOnly.trans
      (ps := [.clocks, .lanes, .engine, .jobs, .engineLaw, .pattern, .tracks, .cal, .link, .traffic]) ?_ (startJob _)
    refine State.ChangesOnly.trans (ps := [.clocks, .lanes, .engine, .jobs, .engineLaw]) ?_ (applyHeld _)
    refine State.ChangesOnly.trans (ps := [.clocks, .lanes]) ?_ (setEngine _ _)
    exact (clockTo s _).trans (takeResult _ j)
  intro p hp
  by_cases he : p = .engineLaw
  · subst he
    intro k
    unfold State.completeJob
    dsimp only
    refine standbyCheck _ .engineLaw (by decide) (State.startJob_lawful ?_)
    have e1 : ((s.clockTo j.readyAt).takeResult j).engine = s.engine := by
      rw [show ((s.clockTo j.readyAt).takeResult j).engine = (s.clockTo j.readyAt).engine from
        takeResult (s.clockTo j.readyAt) j .engine (by decide)]
      rfl
    show (State.applyHeld _).engine.lanes.Nodup
    rw [show (State.applyHeld _).engine = _ from applyHeld _ .engine (by decide), State.setEngine_engine, e1]
    unfold Engine.lanes
    rw [Option.map_none, Option.toList_none, List.append_nil]
    exact List.Nodup.of_append_left k.1
  · exact h p (by simp_all)

theorem composeNode {j : Job} (hj : s.engine.job = some j) :
    s.ChangesOnly [.clocks, .pattern, .link, .engine, .lanes] (s.composeNode j) := by
  unfold State.composeNode
  dsimp only
  have h := State.ChangesOnly.trans (rs := [.clocks, .pattern, .link])
    (clockTo s (j.readyAt + j.nodeCost j.duties.length))
    (reportAll _ (s.nextNode j).2)
  have he : ∀ t : State, s.ChangesOnly [.clocks, .pattern, .link] t → ∀ j' : Job, j'.lane = j.lane →
      t.ChangesOnly [.engine] (t.setEngine { t.engine with job := some j' }) := by
    intro t ht j' hl
    have e : t.engine = s.engine := ht .engine (by decide)
    refine setEngineOf t (x := { t.engine with job := some j' }) ?_ fun _ hn => absurd hn (by simp)
    simp only [Engine.lanes, e, hj, Option.map_some, hl]
  split
  · exact h.trans (he _ h _ (by rfl))
  · split
    · exact h.trans (he _ h _ (by rfl))
    · exact State.ChangesOnly.trans (ps := [.clocks, .pattern, .link, .engine]) (h.trans (he _ h _ (by rfl)))
        (qs := [.lanes]) (setLaneOf _ (by simp))

theorem jobEnd : s.ChangesOnly
    [.clocks, .lanes, .engine, .jobs, .pattern, .tracks, .cal, .link, .traffic, .power, .mode, .wheel] s.jobEnd := by
  unfold State.jobEnd
  cases s.engine.finished with
  | none => exact refl s _
  | some j => exact completeJob s j

theorem tickGroup : s.ChangesOnly [.lanes, .link, .engine, .jobs] s.tickGroup := by
  unfold State.tickGroup
  generalize List.finRange 4 = ls
  exact foldl (f := fun t l => if t.lanes[l].timing = .solo then t else t.tickLane l)
    (fun t l => ite (refl t _) (tickLane t l)) ls s

theorem groupClock : s.ChangesOnly [.clocks] s.groupClock := (clockTo s _).trans (setClocks _ _)

theorem tickSolo (l : LaneId) : s.ChangesOnly
    [.clocks, .lanes, .link, .traffic, .engine, .jobs, .power, .mode, .wheel] (s.tickSolo l) := by
  unfold State.tickSolo
  split
  · exact refl s _
  · refine State.ChangesOnly.trans (ps := [.clocks, .lanes, .link, .engine, .jobs]) ?_ (standbyCheck _)
    refine State.ChangesOnly.trans (ps := [.clocks, .lanes]) ?_ (tickLane _ l)
    exact State.ChangesOnly.trans (qs := [.lanes]) (clockTo s _) (setLaneOf _ (by rfl))

theorem slotDue (l : LaneId) : s.ChangesOnly [.clocks, .engine, .lanes, .link] (s.slotDue l) := by
  unfold State.slotDue
  split
  · exact refl s _
  · split
    · exact (clockTo s _).trans (sendSlot _ l)
    · exact refl s _

theorem windowEnd (l : LaneId) (a : BitVec 24) : s.ChangesOnly
    [.clocks, .engine, .lanes, .link, .traffic, .power, .mode, .wheel] (s.windowEnd l a) := by
  unfold State.windowEnd
  split
  · exact refl s _
  · exact (endFrame s l _ a).trans (standbyCheck _)

/-! ### The sense monitor -/

theorem sampleThermal (l : LaneId) (c : BitVec 12) : s.ChangesOnly [.sense, .link] (s.sampleThermal l c) := by
  unfold State.sampleThermal
  dsimp only
  have h := State.ChangesOnly.trans (rs := [.sense]) (setSense s { s.sense with codes := s.sense.codes.put (laneChannel l) (some c) })
    (setSense _ { (s.setCode (laneChannel l) c).sense with
      thermal := (s.setCode (laneChannel l) c).sense.thermal.put l (s.sense.thermal[l].sample (tempOf c)) })
  split
  · exact h.mono
  · exact h.trans (post _ _ _)

theorem sampleAmbient (c : BitVec 12) (ch : Choices) :
    s.ChangesOnly [.sense, .link, .players, .layers] (s.sampleAmbient c ch) := by
  unfold State.sampleAmbient
  dsimp only
  have h := State.ChangesOnly.trans (rs := [.sense]) (setSense s { s.sense with codes := s.sense.codes.put 4 (some c) })
    (setSense _ { (s.setCode 4 c).sense with band := s.sense.band.sample c.toNat })
  split
  · exact h.mono
  · split
    · exact State.ChangesOnly.trans (ps := [.sense, .link, .players, .layers]) (h.trans (applyEvent _ _)) (post _ _ _)
    · exact State.ChangesOnly.trans (ps := [.sense, .link]) (h.trans (post _ _ _)) (applyEvent _ _)

theorem sampleSupply (c : BitVec 12) (ch : Choices) : s.ChangesOnly
    [.sense, .link, .lanes, .engine, .jobs] (s.sampleSupply c ch) := by
  unfold State.sampleSupply
  dsimp only
  have h := State.ChangesOnly.trans (rs := [.sense]) (setSense s { s.sense with codes := s.sense.codes.put 5 (some c) })
    (setSense _ { (s.setCode 5 c).sense with supply := s.sense.supply.sample (millivolts c) })
  split
  · exact h.mono
  · split
    · refine State.ChangesOnly.trans (ps := [.sense, .link]) ?_ (resumeWhere _ _ _)
      exact h.trans (post _ _ _)
    · exact h.trans (post _ _ _)

theorem sampleChannel (n : ChannelId) (c : BitVec 12) (ch : Choices) : s.ChangesOnly
    [.sense, .link, .lanes, .engine, .jobs, .players, .layers]
    (s.sampleChannel n c ch) := by
  unfold State.sampleChannel
  split_ifs
  · exact (sampleThermal s _ c).mono
  · exact (sampleAmbient s c ch).mono
  · exact (sampleSupply s c ch).mono

/-! ### Power -/

theorem sleepLane (dark : Bool) (l : LaneId) : s.ChangesOnly [.lanes] (s.sleepLane dark l) := by
  unfold State.sleepLane
  dsimp only
  have h : s.ChangesOnly [.lanes] (s.setLane l s.lanes[l].toSleep) := setLaneOf s (by rfl)
  split
  · exact h.trans (darkNowOrNext _ l)
  · exact h

theorem goToSleep (m : LinkMsg) (dark : Bool) :
    s.ChangesOnly [.power, .mode, .link, .traffic, .lanes, .wheel, .clocks] (s.goToSleep m dark) := by
  unfold State.goToSleep
  dsimp only
  refine State.ChangesOnly.trans (ps := [.power, .mode, .link, .traffic, .lanes]) ?_ (standbyCheck _)
  refine State.ChangesOnly.trans (ps := [.power, .mode, .link, .traffic]) ?_
    (foldl (f := fun u l => u.sleepLane dark l) (fun u l => sleepLane u dark l) _ _)
  exact State.ChangesOnly.trans (ps := [.power, .mode]) (setPowerOf s (by rfl)) (hold _ _)

theorem deliver : s.ChangesOnly [.power, .events, .players, .layers, .link] s.deliver :=
  State.ChangesOnly.trans (ps := [.power, .events]) (setEvents s (by rfl) (by intro _; exact List.nodup_nil))
    (foldl (f := fun t (e : LineEvent) => t.applyEvent e.source) (fun t e => applyEvent t e.source) _ _)

theorem wakeUp (ch : Choices) :
    s.ChangesOnly [.power, .events, .players, .layers, .link, .lanes, .engine, .jobs] (s.wakeUp ch) := by
  unfold State.wakeUp
  split
  · exact (resumeWhere s _ _).trans (deliver _)
  · exact (deliver s).trans (resumeWhere _ _ _)

theorem answerWake : s.ChangesOnly [.link, .traffic] s.answerWake := by
  unfold State.answerWake
  split
  · exact ok s _ _
  · exact refl s _

theorem enterActive (ch : Choices) : s.ChangesOnly
    [.power, .mode, .events, .players, .layers, .link, .traffic, .lanes, .engine, .jobs] (s.enterActive ch) := by
  unfold State.enterActive
  dsimp only
  refine State.ChangesOnly.trans (ps := [.power, .mode, .events, .players, .layers, .link, .lanes, .engine, .jobs]) ?_
    (answerWake _)
  refine State.ChangesOnly.trans (ps := [.power, .mode, .events, .players, .layers, .link, .lanes, .engine, .jobs])
    (qs := [.power, .mode]) ?_ (setPowerOf _ (by rfl))
  refine State.ChangesOnly.trans (ps := [.power, .mode, .link]) ?_ (wakeUp _ ch)
  exact State.ChangesOnly.trans (ps := [.power, .mode]) (setPowerOf s (by rfl)) (post _ _ _)

end State.ChangesOnly

end Sys2Proof.Machine
end

