-- ==== Sys2Proof/Laws/CommandFrames.lean ====
section
/-! SUPPORT. What the parts of a device tick, the link's operations and every command can change. -/

namespace Sys2Proof.Machine

set_option Elab.async false

namespace State.ChangesOnly

variable (s : State)

/-! ### The device tick -/

theorem tickFade (l : LayerId) : s.ChangesOnly [.layers] (s.tickFade l) := by
  unfold State.tickFade
  split
  · refine setPlaced s ?_
    rw [Option.map_map]
    refine Option.map_congr fun x _ => ?_
    show x.tick.place = x.place
    unfold LayerRec.tick LayerRec.place
    cases x.state <;> rfl
  · exact refl s _

theorem postEnd (p : PlayerId) (r : PlayerTick) (ch : Choices) :
    s.ChangesOnly [.players, .layers, .link] (s.postEnd p r ch) := by
  unfold State.postEnd
  split
  · split
    · exact (applyEvent s _).trans (postAll _ _)
    · exact State.ChangesOnly.trans (ps := [.link]) ((postAll s _).trans (postAll _ _)) (applyEvent _ _)
  · exact refl s _

theorem tickPlayer (p : PlayerId) (ch : Choices) : s.ChangesOnly [.players, .layers, .link] (s.tickPlayer p ch) := by
  unfold State.tickPlayer
  split
  · exact State.ChangesOnly.trans (ps := [.players, .link]) ((setPlayer s p _).trans (postAll _ _)) (postEnd _ _ _ _)
  · exact refl s _

/-- Taking a part changes what it changes, and the clock's list of parts. -/
theorem takePart {ps : List Part} {part : TickPart} {f : State → State} (h : ∀ t : State, t.ChangesOnly ps (f t)) :
    s.ChangesOnly (.clocks :: ps) (s.takePart part f) := by
  unfold State.takePart
  split
  · exact refl s _
  · intro p hp
    exact (setClocks s _ p fun hm => hp (by simp_all)).trans (h _ p fun hm => hp (by simp [hm]))

theorem partChannel (c : ChannelId) (codes : Tab (BitVec 12) 6) (ch : Choices) : s.ChangesOnly
    [.sense, .link, .lanes, .engine, .jobs, .players, .layers]
    (s.partChannel c codes ch) := by
  unfold State.partChannel
  exact ite (sampleChannel s c _ ch) (refl s _)

theorem sampleRest (codes : Tab (BitVec 12) 6) (ch : Choices) : s.ChangesOnly
    [.clocks, .sense, .link, .lanes, .engine, .jobs, .players, .layers]
    (s.sampleRest codes ch) := by
  unfold State.sampleRest
  generalize List.finRange 6 = cs
  exact foldl (f := fun t c => t.takePart (.channel c) fun u => u.partChannel c codes ch)
    (fun t c => takePart t fun u => partChannel u c codes ch) cs s

theorem partSense (codes : Tab (BitVec 12) 6) (ch : Choices) : s.ChangesOnly
    [.clocks, .sense, .link, .lanes, .engine, .jobs, .players, .layers]
    (s.partSense codes ch) := by
  unfold State.partSense
  split
  · split
    · exact (sampleRest s codes ch).trans (setSense _ _)
    · exact (setSense s _).mono
  · exact refl s _

theorem partWaking (ch : Choices) : s.ChangesOnly
    [.power, .mode, .events, .players, .layers, .link, .traffic, .lanes, .engine, .jobs] (s.partWaking ch) := by
  unfold State.partWaking
  split
  · dsimp only
    have h : s.ChangesOnly [.power, .mode] (s.setPower { s.power with count := s.power.count + 1 }) :=
      setPowerOf s (by rfl)
    split
    · exact h.trans (enterActive _ ch)
    · exact h.mono
  · exact refl s _

theorem sampleFirst (codes : Tab (BitVec 12) 6) (ch : Choices) : s.ChangesOnly
    [.clocks, .sense, .link, .lanes, .engine, .jobs, .players, .layers] (s.sampleFirst codes ch) := by
  unfold State.sampleFirst
  exact ite ((takePart s fun t => partSense t codes ch).mono) (refl s _)

/-- What a device tick can change: everything but the zones, the stacks, the placement of layers, the bindings, pattern
memory, the lanes' chains and the queue. -/
def tickParts : List Part :=
  [.clocks, .layers, .players, .link, .traffic, .lines, .power, .mode, .events, .cal, .wheel, .sense, .lanes, .engine,
   .jobs]

theorem runPart (inp : TickInput) (part : TickPart) (ch : Choices) : s.ChangesOnly tickParts (s.runPart inp part ch) := by
  have h : s.ChangesOnly (.clocks :: tickParts) (s.runPart inp part ch) := by
    unfold State.runPart
    cases part
    · exact takePart s fun t => (tickFade t _).mono
    · exact takePart s fun t => (tickPlayer t _ ch).mono
    · exact takePart s fun t => (sampleLine t _ _).mono
    · exact takePart s fun t => (sampleWheel t _).mono
    · exact ite (takePart s fun t => (partChannel t _ _ ch).mono) (refl s _)
    · exact takePart s fun t => (partSense t _ ch).mono
    · exact State.ChangesOnly.trans (qs := .clocks :: tickParts) (sampleFirst s _ _)
        (takePart _ fun t => (partWaking t ch).mono)
  exact h.mono

theorem runOrder (inp : TickInput) (order : List (TickPart × Choices)) :
    s.ChangesOnly tickParts (s.runOrder inp order) :=
  foldl (f := fun t (x : TickPart × Choices) => t.runPart inp x.1 x.2) (fun t x => runPart t inp x.1 x.2) order s

theorem runRest (inp : TickInput) : s.ChangesOnly tickParts (s.runRest inp) := by
  unfold State.runRest
  generalize restOfTick = ps
  exact foldl (f := fun t part => t.runPart inp part Choices.default) (fun t x => runPart t inp x _) ps s

/-- A part taken ahead. -/
theorem ahead {ps : List Part} {part : TickPart} {due : Bool} {f : State → State}
    (h : ∀ t : State, t.ChangesOnly ps (f t)) : s.ChangesOnly (.clocks :: ps) (s.ahead part due f) := by
  unfold State.ahead
  split
  · intro p hp
    exact (clockTo s _ p fun hm => hp (by simp_all)).trans (takePart _ h p hp)
  · exact refl s _

/-! ### The link -/

theorem linkFault (c : LinkFaultCause) (n : Nat) : s.ChangesOnly [.link, .traffic] (s.linkFault c n) :=
  State.ChangesOnly.trans (ps := [.link, .traffic]) (setLinkOf s (by exact id)) (post _ _ _)

theorem goodMessage (m : LinkMsg) : s.ChangesOnly [.link, .traffic, .power, .mode, .clocks] (s.goodMessage m) := by
  unfold State.goodMessage
  split
  · exact State.ChangesOnly.mono (ps := [.link, .traffic])
      (setLinkOf s fun h => by unfold LinkState.restartArrival; split_ifs <;> exact h)
  · split
    · next hb =>
      unfold State.bufferMessage
      have h : s.ChangesOnly [.link, .traffic] (s.setLink { s.link with buffer := s.link.buffer ++ [m] }) :=
        setLinkOf s fun h => ⟨by simpa using hb, h.2⟩
      dsimp only
      split
      · exact h.trans (wakeByMessage _)
      · exact h.mono
    · exact State.ChangesOnly.mono (ps := [.link, .traffic]) (setLinkOf s fun h => LinkState.busyReply_bounded h m)

theorem setParser (p : Parser) : s.ChangesOnly [.link, .traffic] (s.setParser p) := setLinkOf s (by exact id)

theorem parse (b : RxByte) : s.ChangesOnly [.link, .traffic, .power, .mode, .clocks] (s.parse b) := by
  unfold State.parse
  split
  · split
    · exact (setParser s _).mono
    · exact refl s _
  · split
    · exact (setParser s _).mono
    · exact (linkFault s _ _).mono
  · split_ifs
    · exact (linkFault s _ _).mono
    · exact (setParser s _).mono
    · exact (setParser s _).mono
  · split
    · exact (setParser s _).trans (goodMessage _ _)
    · exact (linkFault s _ _).mono

theorem timeout : s.ChangesOnly [.clocks, .link, .traffic] s.timeout := by
  unfold State.timeout
  split
  · exact refl s _
  · exact (clockTo s _).trans (linkFault _ _ _)

theorem receive (b : RxByte) : s.ChangesOnly [.clocks, .link, .traffic, .power, .mode] (s.receive b) := by
  unfold State.receive
  refine State.ChangesOnly.trans (ps := [.clocks, .link, .traffic]) ?_ (parse _ b)
  refine State.ChangesOnly.trans (ps := [.clocks, .link, .traffic]) (qs := [.link, .traffic]) ?_
    (setLinkOf _ (by exact id))
  exact State.ChangesOnly.trans (ps := [.clocks, .link, .traffic]) (ite (timeout s) (refl s _)) (clockTo _ _)

theorem receiveAll (rx : List RxByte) : s.ChangesOnly [.clocks, .link, .traffic, .power, .mode] (s.receiveAll rx) :=
  foldl (f := State.receive) receive rx s

end State.ChangesOnly

/-! ### Every command -/

/-- What each command can change. The two resets change everything but the queue. -/
def touches : Instr → List Part
  | .powerOnReset | .restartReset =>
    [.link, .traffic, .zones, .layers, .placement, .zoneStacks, .pattern, .tracks, .players, .lines, .wheel, .bindings, .cal,
     .lanes, .chains, .engine, .jobs, .sense, .power, .mode, .events, .clocks]
  | .messageReceived _ | .receiveFault _ | .byteReceived _ => [.clocks, .link, .traffic, .power, .mode]
  | .interByteTimeout | .transmitGrant => [.clocks, .link, .traffic]
  | .dispatchBadKind | .replyQueueJoin | .statusRead | .restart | .wake | .noticeMask | .zoneRead | .stackRead
  | .memoryRead | .playerRead | .inputsRead | .calRead | .senseRead => [.link, .traffic]
  | .sleep => [.link, .traffic, .power, .mode, .lanes, .wheel, .clocks]
  | .standbyEntry => [.power, .mode, .wheel, .link, .traffic, .clocks]
  | .wakingComplete _ => [.clocks, .power, .mode, .events, .players, .layers, .link, .traffic, .lanes, .engine, .jobs]
  | .laneSetup => [.link, .traffic, .lanes, .chains]
  | .laneEnable => [.link, .traffic, .lanes, .engine, .jobs]
  | .laneDisable | .laneRead | .nodeHold | .nodeFaultsRead | .budgetSet => [.link, .traffic, .lanes]
  | .laneDisableComplete _ _ => [.clocks, .engine, .lanes, .link, .traffic]
  | .groupPeriod => [.link, .traffic, .clocks]
  | .zoneDefine | .zoneClear => [.link, .traffic, .zones]
  | .layerPlace | .layerLift => [.link, .traffic, .layers, .placement, .zoneStacks]
  | .layerSet | .layerShow | .layerHide => [.link, .traffic, .layers]
  | .trackCreate | .keysWrite | .trackFree => [.link, .traffic, .pattern, .tracks]
  | .keysRead => [.link, .traffic, .pattern]
  | .storageUpset _ _ _ => [.pattern]
  | .keysWriteHeldApply | .workingSetHeldApply | .composeJobComplete =>
    [.clocks, .lanes, .engine, .jobs, .pattern, .tracks, .cal, .link, .traffic, .power, .mode, .wheel]
  | .playerSetup | .playerStart | .playerArm | .playerStop => [.link, .traffic, .players]
  | .lineSetup => [.link, .traffic, .lines]
  | .bind | .unbind => [.link, .traffic, .bindings]
  | .eventInject => [.link, .traffic, .players, .layers]
  | .calWrite | .calRestore | .curveWrite | .dimmerSet | .bandFactors => [.link, .traffic, .cal]
  | .monitorSet => [.link, .traffic, .sense]
  | .deviceTick _ => State.ChangesOnly.tickParts
  | .fadeEnd _ => [.clocks, .layers]
  | .holdPointReached _ | .windowExpiry _ | .wrap _ | .tailEntry _ _ | .tailRunOut _ _ =>
    [.clocks, .players, .layers, .link]
  | .lineEdge _ => [.clocks, .lines, .players, .layers, .link, .power, .mode, .events]
  | .detent _ => [.clocks, .cal, .wheel, .players, .layers, .link]
  | .senseTick _ _ => [.clocks, .sense, .link, .lanes, .engine, .jobs, .players, .layers]
  | .thermalStateChange _ _ => [.clocks, .sense, .link]
  | .supplyStateChange _ _ => [.clocks, .sense, .link, .lanes, .engine, .jobs]
  | .bandEntry _ _ => [.clocks, .sense, .link, .players, .layers]
  | .groupTick | .soloTick _ => [.clocks, .lanes, .link, .traffic, .engine, .jobs, .power, .mode, .wheel]
  | .directSlotDue _ => [.clocks, .engine, .lanes, .link]
  | .returnWindowEnd _ _ => [.clocks, .engine, .lanes, .link, .traffic, .power, .mode, .wheel]
  | .nodeCompose => [.clocks, .pattern, .link, .engine, .lanes]

namespace State.ChangesOnly

variable (s : State) (m : LinkMsg)

/-! ### The rules of the link commands -/

theorem cmdZoneDefine : s.ChangesOnly [.zones, .link, .traffic] (Machine.cmdZoneDefine m s) := by
  unfold Machine.cmdZoneDefine
  (repeat' split) <;> first
    | exact (setZone s _ _).trans (ok _ m _)
    | exact (refuse s m _).mono

theorem cmdZoneClear : s.ChangesOnly [.zones, .link, .traffic] (Machine.cmdZoneClear m s) := by
  unfold Machine.cmdZoneClear
  (repeat' split) <;> first
    | exact (setZone s _ _).trans (ok _ m _)
    | exact (ok s m _).mono
    | exact (refuse s m _).mono

theorem cmdLayerPlace : s.ChangesOnly [.layers, .placement, .zoneStacks, .link, .traffic] (Machine.cmdLayerPlace m s) := by
  unfold Machine.cmdLayerPlace
  (repeat' split) <;> first
    | exact (placeLayer s _).trans (ok _ m _)
    | exact (refuse s m _).mono

theorem cmdLayerLift : s.ChangesOnly [.layers, .placement, .zoneStacks, .link, .traffic] (Machine.cmdLayerLift m s) := by
  unfold Machine.cmdLayerLift
  split
  · exact (refuse s m _).mono
  · exact (liftLayer s _).trans (ok _ m _)

theorem cmdLayerSet : s.ChangesOnly [.layers, .link, .traffic] (Machine.cmdLayerSet m s) := by
  unfold Machine.cmdLayerSet
  split
  · exact (refuse s m _).mono
  · split
    · exact (refuse s m _).mono
    · next x hx =>
      exact State.ChangesOnly.trans (ps := [.layers]) (setPlaced s (by rw [hx]; rfl)) (ok _ m _)

theorem cmdTrackCreate : s.ChangesOnly [.pattern, .tracks, .link, .traffic] (Machine.cmdTrackCreate m s) := by
  unfold Machine.cmdTrackCreate
  (repeat' split) <;> first
    | exact (setPattern s _).trans (ok _ m _)
    | exact (refuse s m _).mono

theorem cmdKeysWrite : s.ChangesOnly [.pattern, .tracks, .link, .traffic] (Machine.cmdKeysWrite m s) := by
  unfold Machine.cmdKeysWrite
  (repeat' split) <;> first
    | exact (hold s _).mono
    | exact (refuse s m _).mono
    | exact finishKeysWrite s m _

theorem cmdKeysRead : s.ChangesOnly [.pattern, .link, .traffic] (Machine.cmdKeysRead m s) := by
  unfold Machine.cmdKeysRead
  (repeat' split) <;> first
    | exact (refuse s m _).mono
    | exact (reportAll s _).trans (ok _ m _)

theorem cmdTrackFree : s.ChangesOnly [.pattern, .tracks, .link, .traffic] (Machine.cmdTrackFree m s) := by
  unfold Machine.cmdTrackFree State.replyFree
  (repeat' split) <;> first
    | exact (refuse s m _).mono
    | exact (ok s m _).mono
    | exact (setPattern s _).trans (ok _ m _)

theorem calCommand : s.ChangesOnly [.cal, .link, .traffic] (State.calCommand m s) := by
  unfold State.calCommand
  (repeat' split) <;> first
    | exact (refuse s m _).mono
    | exact (hold s _).mono
    | exact finishCal s m _ _

theorem cmdCurveWrite : s.ChangesOnly [.cal, .link, .traffic] (Machine.cmdCurveWrite m s) := by
  unfold Machine.cmdCurveWrite
  split
  · exact (refuse s m _).mono
  · exact (setCal s _).trans (ok _ m _)

theorem cmdDimmerSet : s.ChangesOnly [.cal, .link, .traffic] (Machine.cmdDimmerSet m s) := by
  unfold Machine.cmdDimmerSet
  split
  · exact (refuse s m _).mono
  · exact (setCal s _).trans (ok _ m _)

theorem cmdBandFactors : s.ChangesOnly [.cal, .link, .traffic] (Machine.cmdBandFactors m s) := by
  unfold Machine.cmdBandFactors
  split
  · exact (refuse s m _).mono
  · exact (setCal s _).trans (ok _ m _)

theorem cmdPlayerSetup : s.ChangesOnly [.players, .link, .traffic] (Machine.cmdPlayerSetup m s) := by
  unfold Machine.cmdPlayerSetup
  split
  · exact (refuse s m _).mono
  · split
    · dsimp only
      split
      · exact (setPlayer s _ _).trans (answer _ m _ _)
      · exact (setPlayer s _ _).trans (answer _ m _ _)
    · exact (refuse s m _).mono

theorem cmdPlayerStart : s.ChangesOnly [.players, .link, .traffic] (Machine.cmdPlayerStart m s) := by
  unfold Machine.cmdPlayerStart
  split
  · exact (refuse s m _).mono
  · split
    · exact (refuse s m _).mono
    · exact (startPlayer s _).trans (ok _ m _)

theorem cmdPlayerArm : s.ChangesOnly [.players, .link, .traffic] (Machine.cmdPlayerArm m s) := by
  unfold Machine.cmdPlayerArm
  (repeat' split) <;> first
    | exact (setPlayer s _ _).trans (ok _ m _)
    | exact (refuse s m _).mono

theorem cmdPlayerStop : s.ChangesOnly [.players, .link, .traffic] (Machine.cmdPlayerStop m s) := by
  unfold Machine.cmdPlayerStop
  split
  · exact (refuse s m _).mono
  · exact (setPlayer s _ _).trans (ok _ m _)

theorem cmdLineSetup : s.ChangesOnly [.lines, .link, .traffic] (Machine.cmdLineSetup m s) := by
  unfold Machine.cmdLineSetup
  split
  · exact (refuse s m _).mono
  · exact (setLine s _ _).trans (ok _ m _)

theorem cmdBind : s.ChangesOnly [.bindings, .link, .traffic] (Machine.cmdBind m s) := by
  unfold Machine.cmdBind
  split
  · exact (refuse s m _).mono
  · exact (setBinding s _ _).trans (ok _ m _)

theorem cmdUnbind : s.ChangesOnly [.bindings, .link, .traffic] (Machine.cmdUnbind m s) := by
  unfold Machine.cmdUnbind
  split
  · exact (refuse s m _).mono
  · exact (setBinding s _ _).trans (ok _ m _)

theorem cmdEventInject : s.ChangesOnly [.players, .layers, .link, .traffic] (Machine.cmdEventInject m s) := by
  unfold Machine.cmdEventInject
  split
  · exact (refuse s m _).mono
  · exact (applyCounted s _).trans (ok _ m _)

theorem cmdLaneSetup : s.ChangesOnly [.lanes, .chains, .link, .traffic] (Machine.cmdLaneSetup m s) := by
  unfold Machine.cmdLaneSetup
  (repeat' split) <;> first
    | exact (setLane s _ _).trans (ok _ m _)
    | exact (refuse s m _).mono

theorem cmdLaneEnable : s.ChangesOnly [.lanes, .engine, .jobs, .link, .traffic] (Machine.cmdLaneEnable m s) := by
  unfold Machine.cmdLaneEnable
  (repeat' split) <;> first
    | exact (enableLane s _).trans (ok _ m _)
    | exact (refuse s m _).mono

theorem stopLane (l : LaneId) (dark : Bool) : s.ChangesOnly [.lanes] (s.stopLane l dark) := by
  unfold State.stopLane
  dsimp only
  have h : s.ChangesOnly [.lanes] (s.setLane l { s.lanes[l].closeFeed with state := .stopping }) :=
    setLaneOf s (by rfl)
  split
  · exact h.trans (darkNowOrNext _ l)
  · exact h

theorem cmdLaneDisable : s.ChangesOnly [.lanes, .link, .traffic] (Machine.cmdLaneDisable m s) := by
  unfold Machine.cmdLaneDisable
  split
  · exact (refuse s m _).mono
  · split
    · exact (ok s m _).mono
    · exact State.ChangesOnly.trans (ps := [.lanes, .link, .traffic]) ((stopLane s _ _).trans (hold _ _)) (stopIfDone _ _)

theorem cmdLaneRead : s.ChangesOnly [.lanes, .link, .traffic] (Machine.cmdLaneRead m s) := by
  unfold Machine.cmdLaneRead
  split
  · exact (refuse s m _).mono
  · exact State.ChangesOnly.trans (ps := [.lanes]) (setLaneOf s (by rfl)) (ok _ m _)

theorem cmdNodeHold : s.ChangesOnly [.lanes, .link, .traffic] (Machine.cmdNodeHold m s) := by
  unfold Machine.cmdNodeHold
  split
  · exact (refuse s m _).mono
  · split
    · exact State.ChangesOnly.trans (ps := [.lanes]) (setLaneOf s (by rfl)) (ok _ m _)
    · exact (refuse s m _).mono

theorem cmdNodeFaultsRead : s.ChangesOnly [.lanes, .link, .traffic] (Machine.cmdNodeFaultsRead m s) := by
  unfold Machine.cmdNodeFaultsRead
  split
  · exact (refuse s m _).mono
  · exact State.ChangesOnly.trans (ps := [.lanes]) (setLaneOf s (by rfl)) (ok _ m _)

theorem cmdBudgetSet : s.ChangesOnly [.lanes, .link, .traffic] (Machine.cmdBudgetSet m s) := by
  unfold Machine.cmdBudgetSet
  split
  · exact (refuse s m _).mono
  · exact State.ChangesOnly.trans (ps := [.lanes]) (setLaneOf s (by rfl)) (ok _ m _)

theorem cmdGroupPeriod : s.ChangesOnly [.clocks, .link, .traffic] (Machine.cmdGroupPeriod m s) := by
  unfold Machine.cmdGroupPeriod
  dsimp only
  (repeat' split) <;> first
    | exact (setClocks s _).trans (ok _ m _)
    | exact (refuse s m _).mono

theorem cmdMonitorSet : s.ChangesOnly [.sense, .link, .traffic] (Machine.cmdMonitorSet m s) := by
  unfold Machine.cmdMonitorSet
  split
  · exact (refuse s m _).mono
  · exact (setSense s _).trans (ok _ m _)

theorem cmdSleep : s.ChangesOnly [.power, .mode, .link, .traffic, .lanes, .wheel, .clocks] (Machine.cmdSleep m s) := by
  unfold Machine.cmdSleep
  split
  · exact (refuse s m _).mono
  · exact goToSleep s m _

theorem cmdWake : s.ChangesOnly [.link, .traffic] (Machine.cmdWake m s) := by
  unfold Machine.cmdWake
  split
  · exact hold s _
  · exact ok s m _

theorem cmdNoticeMask : s.ChangesOnly [.link, .traffic] (Machine.cmdNoticeMask m s) := by
  unfold Machine.cmdNoticeMask
  split
  · exact refuse s m _
  · exact State.ChangesOnly.trans (ps := [.link, .traffic]) (setLinkOf s (by exact id)) (ok _ m _)

theorem cmdZoneRead : s.ChangesOnly [.link, .traffic] (Machine.cmdZoneRead m s) := by
  unfold Machine.cmdZoneRead
  (repeat' split) <;> first | exact refuse s m _ | exact ok s m _

theorem cmdStackRead : s.ChangesOnly [.link, .traffic] (Machine.cmdStackRead m s) := by
  unfold Machine.cmdStackRead
  (repeat' split) <;> first | exact refuse s m _ | exact ok s m _

theorem cmdMemoryRead : s.ChangesOnly [.link, .traffic] (Machine.cmdMemoryRead m s) := by
  unfold Machine.cmdMemoryRead
  (repeat' split) <;> first | exact refuse s m _ | exact ok s m _

theorem cmdPlayerRead : s.ChangesOnly [.link, .traffic] (Machine.cmdPlayerRead m s) := by
  unfold Machine.cmdPlayerRead
  (repeat' split) <;> first | exact refuse s m _ | exact ok s m _

theorem cmdInputsRead : s.ChangesOnly [.link, .traffic] (Machine.cmdInputsRead m s) := by
  unfold Machine.cmdInputsRead
  (repeat' split) <;> first | exact refuse s m _ | exact ok s m _

theorem cmdCalRead : s.ChangesOnly [.link, .traffic] (Machine.cmdCalRead m s) := by
  unfold Machine.cmdCalRead
  (repeat' split) <;> first | exact refuse s m _ | exact ok s m _

end State.ChangesOnly

/-! ### Every command -/

theorem LinkState.joinWaiting_bounded {k : LinkState} (h : k.Bounded) : k.joinWaiting.Bounded := by
  unfold LinkState.joinWaiting
  split
  · exact LinkState.joinReply_bounded h _
  · refine ⟨h.1, ?_, h.2.2⟩
    have := h.2.1
    simp only [List.length_append, List.length_take]
    omega
  · exact h

theorem LinkState.beginRestart_bounded {k : LinkState} (h : k.Bounded) (m : LinkMsg) : (k.beginRestart m).Bounded :=
  LinkState.joinWaiting_bounded ⟨Nat.zero_le _, h.2⟩

theorem LinkState.grant_bounded {k : LinkState} (h : k.Bounded) (t : Nat) : (k.grant t).Bounded := by
  unfold LinkState.grant
  split
  · next r rest _ hr => exact ⟨h.1, by have := h.2.1; rw [hr] at this; exact Nat.le_of_succ_le this, h.2.2⟩
  · next n rest _ hn =>
    split
    · exact h
    · exact ⟨h.1, h.2.1, by have := h.2.2; rw [hn] at this; exact Nat.le_of_succ_le this⟩
  · exact h

theorem LayerRec.shown_place (x : LayerRec) : x.shown.place = x.place := by
  cases h : x.state <;> simp [LayerRec.shown, LayerRec.place, h]

theorem LayerRec.hidden_place (x : LayerRec) : x.hidden.place = x.place := by
  cases h : x.state <;> simp [LayerRec.hidden, LayerRec.place, h]

open State.ChangesOnly in
/-- Every command changes only what it touches. -/
theorem exec_changes (c : Instr) {s t : State} (h : exec c s = .next t) : s.ChangesOnly (touches c) t := by
  have reset : ∀ cause now pattern cal, s.ChangesOnly (touches .powerOnReset)
      (State.afterReset cause now pattern cal s.pending) := by
    intro _ _ _ _ p hp
    cases p
    case bounds => exact fun _ => ⟨Nat.zero_le _, Nat.zero_le _, by show 1 ≤ 16; decide⟩
    case engineLaw => exact fun _ => ⟨List.nodup_nil, fun _ => rfl⟩
    case eventLaw => exact fun _ => List.nodup_nil
    all_goals first | exact absurd (by decide) hp | rfl
  cases c <;> obtain rfl := Host.Outcome.next.inj h
  · exact reset _ _ _ _
  · exact receiveAll s _
  · exact receiveAll s _
  · exact timeout s
  · split
    · exact refl s _
    · exact ite (refl s _) ((takeFront s).trans (refuse _ _ _))
  · exact setLinkOf s LinkState.joinWaiting_bounded
  · exact ite (State.ChangesOnly.trans (qs := [.link, .traffic]) (clockTo s _)
      (setLinkOf _ fun h => LinkState.grant_bounded h _)) (refl s _)
  · exact (dispatch s (fun m t => ok t m _)).mono
  · exact (dispatch s (ps := [.link, .traffic]) (fun m t => setLinkOf t fun h => LinkState.beginRestart_bounded h m)).mono
  · exact ite (reset _ _ _ _) (refl s _)
  · exact (dispatch s (fun m t => State.ChangesOnly.cmdSleep t m)).mono
  · exact standbyCheck s
  · exact (dispatch s (fun m t => State.ChangesOnly.cmdWake t m)).mono
  · exact ahead s fun t => partWaking t _
  · exact (dispatch s (fun m t => State.ChangesOnly.cmdNoticeMask t m)).mono
  · exact (dispatch s (fun m t => State.ChangesOnly.cmdLaneSetup t m)).mono
  · exact (dispatch s (fun m t => State.ChangesOnly.cmdLaneEnable t m)).mono
  · exact (dispatch s (fun m t => State.ChangesOnly.cmdLaneDisable t m)).mono
  · refine ite ?_ (refl s _)
    split
    · exact (stopIfDone s _).mono rfl
    · exact ite (refl s _) (endFrame s _ _ _)
  · exact (dispatch s (fun m t => State.ChangesOnly.cmdLaneRead t m)).mono
  · exact (dispatch s (fun m t => State.ChangesOnly.cmdNodeHold t m)).mono
  · exact (dispatch s (fun m t => State.ChangesOnly.cmdNodeFaultsRead t m)).mono
  · exact (dispatch s (fun m t => State.ChangesOnly.cmdGroupPeriod t m)).mono
  · exact (dispatch s (fun m t => State.ChangesOnly.cmdZoneDefine t m)).mono
  · exact (dispatch s (fun m t => State.ChangesOnly.cmdZoneClear t m)).mono
  · exact (dispatch s (fun m t => State.ChangesOnly.cmdZoneRead t m)).mono
  · exact (dispatch s (fun m t => State.ChangesOnly.cmdLayerPlace t m)).mono
  · exact (dispatch s (fun m t => State.ChangesOnly.cmdLayerLift t m)).mono
  · exact (dispatch s (fun m t => State.ChangesOnly.cmdLayerSet t m)).mono
  · exact (dispatch s (fun m t => State.ChangesOnly.fadeCommand t LayerRec.shown_place m)).mono
  · exact (dispatch s (fun m t => State.ChangesOnly.fadeCommand t LayerRec.hidden_place m)).mono
  · exact (dispatch s (fun m t => State.ChangesOnly.cmdStackRead t m)).mono
  · exact (dispatch s (fun m t => State.ChangesOnly.cmdTrackCreate t m)).mono
  · exact (dispatch s (fun m t => State.ChangesOnly.cmdKeysWrite t m)).mono
  · exact ite (jobEnd s) (refl s _)
  · exact (dispatch s (fun m t => State.ChangesOnly.cmdKeysRead t m)).mono
  · exact (dispatch s (fun m t => State.ChangesOnly.cmdTrackFree t m)).mono
  · exact (dispatch s (fun m t => State.ChangesOnly.cmdMemoryRead t m)).mono
  · intro p hp
    cases p
    case tracks => exact ⟨rfl, fun _ => rfl⟩
    all_goals first | exact absurd List.mem_cons_self hp | rfl | exact fun _ => rfl | exact id
  · exact (dispatch s (fun m t => State.ChangesOnly.cmdPlayerSetup t m)).mono
  · exact (dispatch s (fun m t => State.ChangesOnly.cmdPlayerStart t m)).mono
  · exact (dispatch s (fun m t => State.ChangesOnly.cmdPlayerArm t m)).mono
  · exact (dispatch s (fun m t => State.ChangesOnly.cmdPlayerStop t m)).mono
  · exact (dispatch s (fun m t => State.ChangesOnly.cmdPlayerRead t m)).mono
  · exact (dispatch s (fun m t => State.ChangesOnly.cmdLineSetup t m)).mono
  · exact (dispatch s (fun m t => State.ChangesOnly.cmdBind t m)).mono
  · exact (dispatch s (fun m t => State.ChangesOnly.cmdUnbind t m)).mono
  · exact (dispatch s (fun m t => State.ChangesOnly.cmdEventInject t m)).mono
  · exact (dispatch s (fun m t => State.ChangesOnly.cmdInputsRead t m)).mono
  · exact (dispatch s (fun m t => State.ChangesOnly.calCommand t m)).mono
  · exact (dispatch s (fun m t => State.ChangesOnly.calCommand t m)).mono
  · exact ite (jobEnd s) (refl s _)
  · exact (dispatch s (fun m t => State.ChangesOnly.cmdCalRead t m)).mono
  · exact (dispatch s (fun m t => State.ChangesOnly.cmdCurveWrite t m)).mono
  · exact (dispatch s (fun m t => State.ChangesOnly.cmdDimmerSet t m)).mono
  · exact (dispatch s (fun m t => State.ChangesOnly.cmdBandFactors t m)).mono
  · exact (dispatch s (fun m t => State.ChangesOnly.cmdBudgetSet t m)).mono
  · exact (dispatch s (fun m t => State.ChangesOnly.cmdMonitorSet t m)).mono
  · exact (dispatch s (fun m t => ok t m _)).mono
  · exact State.ChangesOnly.trans (ps := tickParts) (State.ChangesOnly.trans (ps := tickParts)
      (State.ChangesOnly.trans (ps := tickParts) ((clockTo s _).trans (runOrder _ _ _)) (runRest _ _))
      (setClocks _ _) rfl rfl) (standbyCheck _) rfl rfl
  · exact ahead s fun t => tickFade t _
  · exact ahead s fun t => tickPlayer t _ _
  · exact ahead s fun t => tickPlayer t _ _
  · exact ahead s fun t => tickPlayer t _ _
  · exact ahead s fun t => tickPlayer t _ _
  · exact ahead s fun t => tickPlayer t _ _
  · split
    · exact refl s _
    · exact (ahead s fun t => sampleLine t _ _).mono rfl
  · exact ahead s fun t => sampleWheel t _
  · exact (ahead s fun t => partSense t _ _).mono rfl
  · exact ahead s fun t => sampleThermal t _ _
  · exact ahead s fun t => sampleSupply t _ _
  · exact ahead s fun t => sampleAmbient t _ _
  · exact State.ChangesOnly.trans (ps := [.clocks, .lanes, .link, .engine, .jobs])
      ((groupClock s).trans (tickGroup _)) (standbyCheck _)
  · exact tickSolo s _
  · exact slotDue s _
  · exact windowEnd s _ _
  · split
    · exact refl s _
    · next j hj => exact ite (composeNode s hj) (refl s _)
  · exact jobEnd s
  · exact receive s _

/-- No command touches the three laws: every command keeps them. -/
theorem laws_untouched (c : Instr) : Part.bounds ∉ touches c ∧ Part.engineLaw ∉ touches c ∧ Part.eventLaw ∉ touches c := by
  cases c <;> simp [touches, State.ChangesOnly.tickParts]

/-- All that a step can do: idle, or the command at the front of the queue on the state with the queue's rest. -/
theorem step_cases {s t : State} (h : step s = .next t) :
    s = t ∨ ∃ c rest, s.pending = c :: rest ∧ exec c { s with pending := rest } = .next t := by
  unfold step at h
  split at h
  · exact .inl (Host.Outcome.next.inj h)
  · next c rest hp => exact .inr ⟨c, rest, hp, h⟩

/-- A property of a state that does not look at the queue is kept by every step if every command keeps it. -/
theorem step_keeps {P : State → Prop} (hq : ∀ (s : State) (q : List Instr), P s → P { s with pending := q })
    (he : ∀ (c : Instr) (s t : State), P s → exec c s = .next t → P t) {s t : State} (hs : P s) (h : step s = .next t) :
    P t := by
  rcases step_cases h with rfl | ⟨c, rest, _, h'⟩
  · exact hs
  · exact he c _ t (hq s rest hs) h'

end Sys2Proof.Machine
end

