-- ==== Sys2Proof/WellFormed.lean ====
section
/-! DEFINITION. The operands that the outside can really bring: what the types of Syntax.lean do not already rule out. -/

namespace Sys2Proof

/-- The bytes come one after another: each takes 10 bit times, 40 µs (10 R168). -/
def RxByte.spaced : List RxByte → Bool
  | [] => true
  | [_] => true
  | a :: b :: rest => decide (a.endsAt + 40 ≤ b.endsAt) && RxByte.spaced (b :: rest)

/-- At least one byte arrives, and the bytes are spaced as the line spaces them (10 R168). -/
def RxByte.arrival (rx : List RxByte) : Bool := !rx.isEmpty && RxByte.spaced rx

/-- No lane is named twice in an order of resumes. -/
def Choices.wf (ch : Choices) : Bool := decide ch.lanesFirst.Nodup

/-- No part of the tick is named twice, and the choices of each are well formed. -/
def TickInput.wf (inp : TickInput) : Bool :=
  decide (inp.order.map Prod.fst).Nodup && inp.order.all fun x => x.2.wf

/-- The check of a command's operands. -/
def Instr.wf : Instr → Bool
  | .messageReceived rx => RxByte.arrival rx
  | .receiveFault rx => RxByte.arrival rx
  | .wakingComplete ch => ch.wf
  | .deviceTick inp => inp.wf
  | .tailEntry _ ch => ch.wf
  | .tailRunOut _ ch => ch.wf
  | .senseTick _ ch => ch.wf
  | .supplyStateChange _ ch => ch.wf
  | .bandEntry _ ch => ch.wf
  | .powerOnReset | .interByteTimeout | .dispatchBadKind | .replyQueueJoin | .transmitGrant | .statusRead | .restart
  | .restartReset | .sleep | .standbyEntry | .wake | .noticeMask | .laneSetup | .laneEnable | .laneDisable
  | .laneDisableComplete _ _ | .laneRead | .nodeHold | .nodeFaultsRead | .groupPeriod | .zoneDefine | .zoneClear
  | .zoneRead | .layerPlace | .layerLift | .layerSet | .layerShow | .layerHide | .stackRead | .trackCreate | .keysWrite
  | .keysWriteHeldApply | .keysRead | .trackFree | .memoryRead | .storageUpset _ _ _ | .playerSetup | .playerStart
  | .playerArm | .playerStop | .playerRead | .lineSetup | .bind | .unbind | .eventInject | .inputsRead | .calWrite
  | .calRestore | .workingSetHeldApply | .calRead | .curveWrite | .dimmerSet | .bandFactors | .budgetSet | .monitorSet
  | .senseRead | .fadeEnd _ | .holdPointReached _ | .windowExpiry _ | .wrap _ | .lineEdge _ | .detent _
  | .thermalStateChange _ _ | .groupTick | .soloTick _ | .directSlotDue _ | .returnWindowEnd _ _ | .nodeCompose
  | .composeJobComplete | .byteReceived _ => true

end Sys2Proof
end

