-- ==== Sys2Proof/Laws/PerInstr.lean ====
section
/-! SUPPORT. The operand check, said once for every command: what it asks of the bytes, the choices and the tick order
that a command carries, and that it asks nothing else. -/

namespace Sys2Proof.Laws.OperandCheck

set_option Elab.async false

/-- The arrivals of bytes among a command's operands. -/
def arrivals : Instr → List (List RxByte)
  | .messageReceived rx | .receiveFault rx => [rx]
  | _ => []

/-- The choices among a command's operands. -/
def choices : Instr → List Choices
  | .wakingComplete ch | .tailEntry _ ch | .tailRunOut _ ch | .senseTick _ ch | .supplyStateChange _ ch
  | .bandEntry _ ch => [ch]
  | .deviceTick inp => inp.order.map Prod.snd
  | _ => []

/-- The orders of tick parts among a command's operands. -/
def orders : Instr → List (List TickPart)
  | .deviceTick inp => [inp.order.map Prod.fst]
  | _ => []

/-- The check passes exactly when bytes arrive one after another, no lane resumes twice, and no part of the tick is
taken twice. -/
def Statement (i : Instr) : Prop :=
  i.wf = true ↔
    (∀ rx ∈ arrivals i, rx ≠ [] ∧ RxByte.spaced rx = true) ∧ (∀ ch ∈ choices i, ch.lanesFirst.Nodup) ∧
      ∀ parts ∈ orders i, parts.Nodup

theorem of_no_operands {i : Instr} (h : i.wf = true) (ha : arrivals i = []) (hc : choices i = [])
    (ho : orders i = []) : Statement i := by
  simp [Statement, h, ha, hc, ho]

theorem powerOnReset : Statement .powerOnReset := of_no_operands rfl rfl rfl rfl

theorem messageReceived (rx : List RxByte) : Statement (.messageReceived rx) := by
  simp [Statement, Instr.wf, arrivals, choices, orders, RxByte.arrival]

theorem receiveFault (rx : List RxByte) : Statement (.receiveFault rx) := by
  simp [Statement, Instr.wf, arrivals, choices, orders, RxByte.arrival]

theorem interByteTimeout : Statement .interByteTimeout := of_no_operands rfl rfl rfl rfl

theorem dispatchBadKind : Statement .dispatchBadKind := of_no_operands rfl rfl rfl rfl

theorem replyQueueJoin : Statement .replyQueueJoin := of_no_operands rfl rfl rfl rfl

theorem transmitGrant : Statement .transmitGrant := of_no_operands rfl rfl rfl rfl

theorem statusRead : Statement .statusRead := of_no_operands rfl rfl rfl rfl

theorem restart : Statement .restart := of_no_operands rfl rfl rfl rfl

theorem restartReset : Statement .restartReset := of_no_operands rfl rfl rfl rfl

theorem sleep : Statement .sleep := of_no_operands rfl rfl rfl rfl

theorem standbyEntry : Statement .standbyEntry := of_no_operands rfl rfl rfl rfl

theorem wake : Statement .wake := of_no_operands rfl rfl rfl rfl

theorem wakingComplete (ch : Choices) : Statement (.wakingComplete ch) := by
  simp [Statement, Instr.wf, arrivals, choices, orders, Choices.wf]

theorem noticeMask : Statement .noticeMask := of_no_operands rfl rfl rfl rfl

theorem laneSetup : Statement .laneSetup := of_no_operands rfl rfl rfl rfl

theorem laneEnable : Statement .laneEnable := of_no_operands rfl rfl rfl rfl

theorem laneDisable : Statement .laneDisable := of_no_operands rfl rfl rfl rfl

theorem laneDisableComplete (l : LaneId) (answer : BitVec 24) : Statement (.laneDisableComplete l answer) := of_no_operands rfl rfl rfl rfl

theorem laneRead : Statement .laneRead := of_no_operands rfl rfl rfl rfl

theorem nodeHold : Statement .nodeHold := of_no_operands rfl rfl rfl rfl

theorem nodeFaultsRead : Statement .nodeFaultsRead := of_no_operands rfl rfl rfl rfl

theorem groupPeriod : Statement .groupPeriod := of_no_operands rfl rfl rfl rfl

theorem zoneDefine : Statement .zoneDefine := of_no_operands rfl rfl rfl rfl

theorem zoneClear : Statement .zoneClear := of_no_operands rfl rfl rfl rfl

theorem zoneRead : Statement .zoneRead := of_no_operands rfl rfl rfl rfl

theorem layerPlace : Statement .layerPlace := of_no_operands rfl rfl rfl rfl

theorem layerLift : Statement .layerLift := of_no_operands rfl rfl rfl rfl

theorem layerSet : Statement .layerSet := of_no_operands rfl rfl rfl rfl

theorem layerShow : Statement .layerShow := of_no_operands rfl rfl rfl rfl

theorem layerHide : Statement .layerHide := of_no_operands rfl rfl rfl rfl

theorem stackRead : Statement .stackRead := of_no_operands rfl rfl rfl rfl

theorem trackCreate : Statement .trackCreate := of_no_operands rfl rfl rfl rfl

theorem keysWrite : Statement .keysWrite := of_no_operands rfl rfl rfl rfl

theorem keysWriteHeldApply : Statement .keysWriteHeldApply := of_no_operands rfl rfl rfl rfl

theorem keysRead : Statement .keysRead := of_no_operands rfl rfl rfl rfl

theorem trackFree : Statement .trackFree := of_no_operands rfl rfl rfl rfl

theorem memoryRead : Statement .memoryRead := of_no_operands rfl rfl rfl rfl

theorem storageUpset (b : BlockId) (k : SlotId) (u : Upset) : Statement (.storageUpset b k u) := of_no_operands rfl rfl rfl rfl

theorem playerSetup : Statement .playerSetup := of_no_operands rfl rfl rfl rfl

theorem playerStart : Statement .playerStart := of_no_operands rfl rfl rfl rfl

theorem playerArm : Statement .playerArm := of_no_operands rfl rfl rfl rfl

theorem playerStop : Statement .playerStop := of_no_operands rfl rfl rfl rfl

theorem playerRead : Statement .playerRead := of_no_operands rfl rfl rfl rfl

theorem lineSetup : Statement .lineSetup := of_no_operands rfl rfl rfl rfl

theorem bind : Statement .bind := of_no_operands rfl rfl rfl rfl

theorem unbind : Statement .unbind := of_no_operands rfl rfl rfl rfl

theorem eventInject : Statement .eventInject := of_no_operands rfl rfl rfl rfl

theorem inputsRead : Statement .inputsRead := of_no_operands rfl rfl rfl rfl

theorem calWrite : Statement .calWrite := of_no_operands rfl rfl rfl rfl

theorem calRestore : Statement .calRestore := of_no_operands rfl rfl rfl rfl

theorem workingSetHeldApply : Statement .workingSetHeldApply := of_no_operands rfl rfl rfl rfl

theorem calRead : Statement .calRead := of_no_operands rfl rfl rfl rfl

theorem curveWrite : Statement .curveWrite := of_no_operands rfl rfl rfl rfl

theorem dimmerSet : Statement .dimmerSet := of_no_operands rfl rfl rfl rfl

theorem bandFactors : Statement .bandFactors := of_no_operands rfl rfl rfl rfl

theorem budgetSet : Statement .budgetSet := of_no_operands rfl rfl rfl rfl

theorem monitorSet : Statement .monitorSet := of_no_operands rfl rfl rfl rfl

theorem senseRead : Statement .senseRead := of_no_operands rfl rfl rfl rfl

theorem deviceTick (inp : TickInput) : Statement (.deviceTick inp) := by
  simp [Statement, Instr.wf, arrivals, choices, orders, TickInput.wf, Choices.wf, and_comm]
  exact fun _ => ⟨fun h c x hx => h x c hx, fun h x c hx => h c x hx⟩

theorem fadeEnd (l : LayerId) : Statement (.fadeEnd l) := of_no_operands rfl rfl rfl rfl

theorem holdPointReached (p : PlayerId) : Statement (.holdPointReached p) := of_no_operands rfl rfl rfl rfl

theorem windowExpiry (p : PlayerId) : Statement (.windowExpiry p) := of_no_operands rfl rfl rfl rfl

theorem wrap (p : PlayerId) : Statement (.wrap p) := of_no_operands rfl rfl rfl rfl

theorem tailEntry (p : PlayerId) (ch : Choices) : Statement (.tailEntry p ch) := by
  simp [Statement, Instr.wf, arrivals, choices, orders, Choices.wf]

theorem tailRunOut (p : PlayerId) (ch : Choices) : Statement (.tailRunOut p ch) := by
  simp [Statement, Instr.wf, arrivals, choices, orders, Choices.wf]

theorem lineEdge (i : LineId) : Statement (.lineEdge i) := of_no_operands rfl rfl rfl rfl

theorem detent (pair : BitVec 2) : Statement (.detent pair) := of_no_operands rfl rfl rfl rfl

theorem senseTick (codes : Tab (BitVec 12) 6) (ch : Choices) : Statement (.senseTick codes ch) := by
  simp [Statement, Instr.wf, arrivals, choices, orders, Choices.wf]

theorem thermalStateChange (l : LaneId) (code : BitVec 12) : Statement (.thermalStateChange l code) := of_no_operands rfl rfl rfl rfl

theorem supplyStateChange (code : BitVec 12) (ch : Choices) : Statement (.supplyStateChange code ch) := by
  simp [Statement, Instr.wf, arrivals, choices, orders, Choices.wf]

theorem bandEntry (code : BitVec 12) (ch : Choices) : Statement (.bandEntry code ch) := by
  simp [Statement, Instr.wf, arrivals, choices, orders, Choices.wf]

theorem groupTick : Statement .groupTick := of_no_operands rfl rfl rfl rfl

theorem soloTick (l : LaneId) : Statement (.soloTick l) := of_no_operands rfl rfl rfl rfl

theorem directSlotDue (l : LaneId) : Statement (.directSlotDue l) := of_no_operands rfl rfl rfl rfl

theorem returnWindowEnd (l : LaneId) (answer : BitVec 24) : Statement (.returnWindowEnd l answer) := of_no_operands rfl rfl rfl rfl

theorem nodeCompose : Statement .nodeCompose := of_no_operands rfl rfl rfl rfl

theorem composeJobComplete : Statement .composeJobComplete := of_no_operands rfl rfl rfl rfl

theorem byteReceived (b : RxByte) : Statement (.byteReceived b) := of_no_operands rfl rfl rfl rfl

end Sys2Proof.Laws.OperandCheck
end

