-- ==== Sys2Proof/Laws/Tick.lean ====
section
/-! SUPPORT. What the shared operations of the device tick and of the trigger unit do: a part taken ahead of its tick, a player's
part, and the bindings that an event reaches. -/

namespace Sys2Proof.Machine

set_option Elab.async false

/-! ### Parts of a tick -/

theorem State.moving_of {s : State} (h : s.power.state = .active ∨ s.power.state = .waking) : s.moving = true := by
  rcases h with h | h <;> simp [State.moving, h]

theorem State.awake_of {s : State} (h : s.power.state ≠ .standby) : s.awake = true := by simpa [State.awake] using h

/-- A part of the coming tick that is due and not yet taken is taken, at the moment of the tick. -/
theorem State.ahead_due {s : State} {part : TickPart} {due : Bool} {f : State → State} (hd : due = true)
    (ht : part ∉ s.clocks.taken) :
    s.ahead part due f =
      f { s with
          clocks := { s.clocks with
                      now := max s.clocks.now s.clocks.deviceDue
                      taken := part :: s.clocks.taken } } := by
  unfold State.ahead
  rw [if_pos hd]
  exact if_neg ht

/-- A part that is not due leaves the state as it is. -/
theorem State.ahead_not_due {s : State} {part : TickPart} {due : Bool} {f : State → State} (hd : due = false) :
    s.ahead part due f = s := by
  unfold State.ahead
  rw [hd]
  rfl

/-- A part that has been taken is not taken again. -/
theorem State.takePart_taken {s : State} {part : TickPart} {f : State → State} (h : part ∈ s.clocks.taken) :
    s.takePart part f = s := if_pos h

theorem State.takePart_free {s : State} {part : TickPart} {f : State → State} (h : part ∉ s.clocks.taken) :
    s.takePart part f = f (s.setClocks { s.clocks with taken := part :: s.clocks.taken }) := if_neg h

/-! ### The sense tick beside the entries to STANDBY and ACTIVE (R153, R167) -/

theorem State.senseBegun_iff {s : State} :
    s.senseBegun = true ↔ .sense ∉ s.clocks.taken ∧ ∃ c : ChannelId, .channel c ∈ s.clocks.taken := by
  simp [State.senseBegun]

theorem State.samplesDue_iff {s : State} :
    s.samplesDue = true ↔ s.power.state ≠ .standby ∧ s.sense.phase = 9 ∧ .sense ∉ s.clocks.taken ∧
      ∃ c : ChannelId, .channel c ∉ s.clocks.taken := by
  simp [State.samplesDue, State.senseDue, State.awake, and_assoc]

/-- The entry to ACTIVE finds no sample due: nothing is sampled before it. -/
theorem State.sampleFirst_none {s : State} {codes : Tab (BitVec 12) 6} {ch : Choices}
    (h : (s.wakingEnds && s.samplesDue) = false) : s.sampleFirst codes ch = s := by
  unfold State.sampleFirst
  rw [h]
  rfl

/-- Only a part that sleeps enters STANDBY. -/
theorem State.standbyCheck_awake {s : State} (h : s.power.state ≠ .sleeping) : s.standbyCheck = s := by
  unfold State.standbyCheck
  split
  · exact if_neg (by simp [State.atRest, h])
  · rfl

/-- A sense tick that has been begun keeps the part from STANDBY. -/
theorem State.standbyCheck_begun {s : State} (h : s.senseBegun = true) : s.standbyCheck = s := by
  unfold State.standbyCheck
  split
  · exact if_neg (by simp [State.atRest, h])
  · rfl

/-! ### Players at a tick -/

/-- A player's tick at which it does not end. -/
theorem State.tickPlayer_of {s : State} {p : PlayerId} {ch : Choices} (h : s.moving = true)
    (he : (s.players[p].tick p s.pattern).ended = false) :
    s.tickPlayer p ch =
      (s.setPlayer p (s.players[p].tick p s.pattern).player).postAll (s.players[p].tick p s.pattern).early := by
  unfold State.tickPlayer
  rw [if_pos h]
  unfold State.postEnd
  exact if_neg (by rw [he]; exact Bool.false_ne_true)

/-- All that a step which names an outcome of a player does when the coming tick has that outcome and the player does not end. -/
theorem State.aheadPlayer {s : State} {p : PlayerId} {ch : Choices} {f : PlayerTick → Bool} {r : PlayerTick}
    (hm : s.power.state = .active ∨ s.power.state = .waking) (ht : .player p ∉ s.clocks.taken)
    (hr : s.players[p].tick p s.pattern = r) (hf : f r = true) (he : r.ended = false) :
    s.ahead (.player p) (f (s.coming p)) (fun t => t.tickPlayer p ch) =
      { s with
        players := s.players.put p r.player
        link := s.link.posted r.early
        clocks := { s.clocks with
                    now := max s.clocks.now s.clocks.deviceDue
                    taken := .player p :: s.clocks.taken } } := by
  have hc : s.coming p = r := by
    unfold State.coming
    rw [if_pos (State.moving_of hm)]
    exact hr
  have H : ∀ t : State, t.power = s.power → t.players = s.players → t.pattern = s.pattern → t.link = s.link →
      t.tickPlayer p ch = { t with players := t.players.put p r.player, link := s.link.posted r.early } := by
    intro t e1 e2 e3 e5
    have e4 : t.players[p].tick p t.pattern = r := by rw [e2, e3]; exact hr
    rw [State.tickPlayer_of (State.moving_of (by rw [e1]; exact hm)) (by rw [e4]; exact he), e4, State.postAll_eq]
    rw [← e5]
    rfl
  exact (State.ahead_due (by rw [hc]; exact hf) ht).trans (H _ rfl rfl rfl rfl)

/-! ### Settings taken -/

theorem Player.applied_settings (x : Player) (st : Settings) (pm : PatternMemory) : (x.applied st pm).settings = st := by
  unfold Player.applied
  cases x.state <;> dsimp only <;> cases st.endPoint (pm.durationOf st) <;> rfl

theorem Player.applied_staged (x : Player) (st : Settings) (pm : PatternMemory) : (x.applied st pm).staged = none := by
  unfold Player.applied
  cases x.state <;> dsimp only <;> cases st.endPoint (pm.durationOf st) <;> rfl

/-- What a take posts, as the statements write it (R95). -/
theorem LinkState.posted_stagedNotice (k : LinkState) (p : PlayerId) (point : TakePoint) (y : Player) :
    k.posted (stagedNotice p point y) =
      if y.settings.endNotice then
        k.post .stagedApplied
          [BitVec.ofNat 8 p.val, BitVec.ofNat 8 point.code, BitVec.ofNat 8 (y.elapsed / 16777216),
            BitVec.ofNat 8 (y.elapsed / 65536), BitVec.ofNat 8 (y.elapsed / 256), BitVec.ofNat 8 y.elapsed]
      else k := by
  unfold stagedNotice
  cases y.settings.endNotice <;> rfl

/-! ### Events -/

/-- A binding answers an event when it is in use, enabled and names the source. -/
theorem State.answering_eq_some {s : State} {src : SourceId} {i : BindingId} {b : Binding} :
    s.answering src i = some b ↔ s.bindings[i] = some b ∧ b.enabled = true ∧ b.source = src := by
  unfold State.answering
  cases h : s.bindings[i] with
  | none => simp
  | some d =>
    by_cases hd : d.enabled = true ∧ d.source = src <;> simp [hd] <;> aesop

theorem State.handAll_skip {s : State} {n : Tally} {src : SourceId} {i : BindingId} {is : List BindingId}
    (h : s.answering src i = none) : s.handAll n src (i :: is) = s.handAll n src is := by
  simp only [State.handAll, h]

theorem State.handAll_hand {s : State} {n : Tally} {src : SourceId} {i : BindingId} {is : List BindingId} {b : Binding}
    (h : s.answering src i = some b) :
    s.handAll n src (i :: is) = (s.handBinding n i b).1.handAll (s.handBinding n i b).2 src is := by
  simp only [State.handAll, h]

/-- An event that no binding answers changes nothing. -/
theorem State.handAll_none {s : State} {n : Tally} {src : SourceId} {is : List BindingId}
    (h : ∀ i ∈ is, s.answering src i = none) : s.handAll n src is = (s, n) := by
  induction is with
  | nil => rfl
  | cons i is ih => rw [State.handAll_skip (h i (by simp)), ih fun j hj => h j (by simp [hj])]

theorem State.applyEvent_none {s : State} {src : SourceId} (h : ∀ i : BindingId, s.answering src i = none) :
    s.applyEvent src = s := by
  unfold State.applyEvent State.applyCounted
  rw [State.handAll_none fun i _ => h i]

end Sys2Proof.Machine
end

