-- ==== Sys2Proof/Tests/Slice0.lean ====
section
/-! SUPPORT. The model's own tests: the operand check, the worked cases of the manual, and for each obligation with premises
states and operands that meet them, at the ends of their ranges. -/

namespace Sys2Proof.Tests

set_option Elab.async false

open Sys2Proof Sys2Proof.Machine

/-! ### Small states -/

/-- The state after one command. -/
def after (c : Instr) (s : State) : State :=
  match exec c s with
  | .next t => t
  | .fault _ => s
  | .refused _ => s

/-- The link message that the tests send, with TAG 7. -/
def note (kind : Byte) (payload : List Byte) : LinkMsg := ⟨7, kind, payload⟩

/-- A state whose buffer holds that message alone. -/
def mail (kind : Byte) (payload : List Byte) (s : State) : State :=
  s.setLink { s.link with buffer := [note kind payload] }

/-- The reply payloads after a link command. -/
def answers (c : Instr) (kind : Byte) (payload : List Byte) (s : State) : List (List Byte) :=
  (after c (mail kind payload s)).link.replies.map Reply.payload

/-- The kinds of the notices after a command. -/
def told (c : Instr) (s : State) : List NoticeKind := (after c s).link.notices.map Notice.kind

/-- A state with no notice waiting. -/
def quiet (s : State) : State := s.setLink { s.link with notices := [] }

/-- Eight replies wait. -/
def full (s : State) : State := s.setLink { s.link with replies := List.replicate 8 ⟨0, 0x81, [0]⟩ }

def inState (p : PowerState) (s : State) : State := s.setPower { s.power with state := p }

/-- Bytes that arrive one after another from the start of the clock. -/
def bytesAt : Nat → List Byte → List RxByte
  | _, [] => []
  | t, b :: bs => ⟨b, false, t + 40⟩ :: bytesAt (t + 40) bs

/-- A lane of four nodes as a power-on LANE_SETUP leaves it. -/
def fourNodes : Lane :=
  { Lane.reset with
    nodeCount := 4
    front := darkEntries 4
    back := darkEntries 4
    lastSent := List.replicate 4 none
    faults := List.replicate 4 0 }

/-- Lane 0 has four nodes, and zone 0 covers them. -/
def cabin : State := quiet ((State.reset.setLane 0 fourNodes).setZone 0 ⟨true, 0, 0, 4, 0, 255, .showAll⟩)

def laneIn (st : LaneState) (s : State) : State := s.setLane 0 { s.lanes[(0 : LaneId)] with state := st }

def lamp : LayerRec := ⟨.steady, 0, 3, .solid ⟨4095, 1800, 300⟩, .replace, 255, none, .linear, 0, 10, 10⟩

/-- Layer 5 stands on zone 0. -/
def lamped (x : LayerRec) : State := (cabin.setLayer 5 (some x)).setStack 0 [5]

/-- Track 2 has 20 keyframes, 0 to 19 ms. -/
def tracked : State := cabin.setPattern (State.reset.pattern.create 2 20)

def settings : Settings := ⟨some 2, .once, 256, 0, 0, .ignore, none, 10000, true⟩

def newSettings : Settings := ⟨some 2, .once, 64, 0, 5, .extend, some 19, 100, true⟩

/-- Player 3 runs track 2. -/
def playing (st : Settings) (now : PlayerState) (e : Nat) : State :=
  tracked.setPlayer 3 ⟨st, now, e, false, none, none⟩

/-- Values that pass colours through, at 18 mA. -/
def plainSet : CalSet := ⟨4096, 0, 0, 0, 4096, 0, 0, 0, 4096, 0, 0, 0, 180, 180, 180⟩

/-- A layer of zone 0 shows player 3, and a job of lane 0 reads the track. -/
def composing : State :=
  let s := (((playing settings .running 0).setWorking 0 plainSet).setLayer 5
    (some { lamp with source := .track 3 })).setStack 0 [5]
  s.setEngine ⟨[], some (s.newJob ⟨0, false⟩)⟩

/-- A frame of lane 0 that has sent `n` slots. -/
def frameAt (n : Nat) : Frame := ⟨0, false, false, false, false, n, List.replicate 4 (some .hold)⟩

def withFrame (f : Frame) (s : State) : State := s.setLane 0 { s.lanes[(0 : LaneId)] with frame := some f }

def sagging (s : State) : State := s.setSense { s.sense with supply := { s.sense.supply with state := .sag } }

def senseTickNext (s : State) : State := s.setSense { s.sense with phase := 9 }

def codes (n : Nat) : Tab (BitVec 12) 6 := Vector.replicate 6 (BitVec.ofNat 12 n)

/-! ### The operand check refuses ill-formed commands -/

theorem test_wf_empty_arrival : (Instr.messageReceived []).wf = false := by decide

theorem test_wf_crowded_bytes : (Instr.receiveFault [⟨0xC3, false, 40⟩, ⟨2, false, 79⟩]).wf = false := by decide

theorem test_wf_spaced_bytes : (Instr.messageReceived (bytesAt 0 [0xC3, 2, 7, 1, 0xF6])).wf = true := by decide

theorem test_wf_lane_named_twice :
    (Instr.wakingComplete ⟨false, [1, 1], false⟩).wf = false ∧ (Instr.tailEntry 0 ⟨false, [1, 1], false⟩).wf = false ∧
      (Instr.tailRunOut 0 ⟨false, [1, 1], false⟩).wf = false ∧
      (Instr.senseTick (codes 0) ⟨false, [1, 1], false⟩).wf = false ∧
      (Instr.supplyStateChange 0 ⟨false, [1, 1], false⟩).wf = false ∧
      (Instr.bandEntry 0 ⟨false, [1, 1], false⟩).wf = false := by decide

theorem test_wf_tick_part_named_twice :
    (Instr.deviceTick ⟨0, 0, codes 0, [(.wheel, Choices.default), (.wheel, Choices.default)]⟩).wf = false ∧
      (Instr.deviceTick ⟨0, 0, codes 0, [(.wheel, ⟨false, [1, 1], false⟩)]⟩).wf = false := by decide +kernel

/-! ### Worked cases of the manual -/

/-- 01: the frame times of the cabin's lanes, and of L2 at 400,000 bit/s. -/
theorem test_frame_times :
    (frameTime .r800k 72, frameTime .r800k 96, frameTime .r400k 72, frameTime .r800k 16, frameTime .r1600k 16) =
      (3760, 4960, 7420, 960, 530) := by decide

/-- 02: the segment weight and the coverage of the welcome layer at t = 1,251. -/
theorem test_segment_weight :
    easeWeight .linear 1251 1000 1500 = 2056 ∧ lerp 2056 800 800 = 800 ∧ lerp 2056 0 255 = 128 ∧
      coverageOf 255 128 256 = 128 := by decide

/-- W3 of the worked case of 02. -/
def dashboardSet : CalSet := ⟨3900, 150, 0, -100, 4300, -60, 0, -80, 4500, 20, 6, 4, 180, 150, 150⟩

/-- 02: stages S2 to S5 and S7 of the dashboard node. -/
theorem test_dashboard_node :
    (RGB.mk 0 800 4000).map2 (blendOne .replace 128) ⟨4095, 1800, 300⟩ = ⟨2039, 1298, 2157⟩ ∧
      (RGB.mk 2039 1298 2157).map (levelled 200 768) = ⟨1201, 764, 1270⟩ ∧
      correctedBy dashboardSet ⟨1201, 764, 1270⟩ = ⟨1172, 754, 1380⟩ ∧
      gainedBy dashboardSet 55 ⟨1172, 754, 1380⟩ = ⟨1344, 787, 1420⟩ ∧
      currentOf dashboardSet ⟨1344, 787, 1420⟩ = 572970 ∧ budgetScale 24570000 0 34378200 = 46838 ∧
      (RGB.mk 1344 787 1420).map (scaled 46838) = ⟨960, 562, 1014⟩ ∧
      budgetScale 24570000 4910400 27502560 = 46846 ∧
      (RGB.mk 1344 787 1420).map (scaled 46846) = ⟨960, 562, 1015⟩ := by decide +kernel

/-- 04: tracks of 20, 100 and 16 keyframes, T1 freed, then 40 keyframes for T5. -/
theorem test_lowest_free_blocks :
    let pm := ((State.reset.pattern.create 0 20).create 1 100).create 2 16
    pm.free.length = 118 ∧
      (pm.tracks[(1 : TrackId)].map fun t => ((pm.release 1 t).create 5 40).free.length) = some 122 ∧
      (pm.tracks[(1 : TrackId)].bind fun t => ((pm.release 1 t).create 5 40).tracks[(5 : TrackId)]).map Track.chain =
        some [2, 3, 4] := by decide +kernel

/-- 05: the 2,467th tick of P3 enters TAIL and, with a tail of 0, ENDED. -/
theorem test_tail_and_end_at_one_tick :
    let track : Track := ⟨2, [0], [0, 2000], [], none⟩
    let pm : PatternMemory := State.reset.pattern.putTrack 8 (some track)
    let x : Player := ⟨⟨some 8, .loop, 384, 2, 0, .ignore, none, 10000, true⟩, .running, 1023744, false, none, none⟩
    ((x.tick 3 pm).player.state, (x.tick 3 pm).player.elapsed, (x.tick 3 pm).tailEntered, (x.tick 3 pm).ended) =
      (.ended, 1024128, true, true) := by decide +kernel

/-- 07: entry 32 of the power-on curve. -/
theorem test_curve_entry : State.reset.cal.curve[(32 : Fin 64)] = 263 := by decide +kernel

/-- 09: conversions at the codes of the manual. -/
theorem test_conversions :
    (tempOf 3103, tempOf 3102, millivolts 1842) = (85, 84, 8996) := by decide

/-- 10: ZONE_READ of Z2 with TAG 17, and its reply as sent. -/
theorem test_zone_read_exchange :
    let s := (((cabin.setZone 2 ⟨true, 1, 0, 60, 3, 200, .blankFaulty⟩).setStack 2 [4, 9]).receiveAll
      (bytesAt 0 [0xC3, 3, 17, 0x22, 2, 200]))
    s.link.buffer = [⟨17, 0x22, [2]⟩] ∧ s.clocks.now = 240 ∧
      (after .transmitGrant (after .zoneRead s)).link.tx =
        some ⟨[0xC3, 11, 17, 0xA2, 0, 1, 1, 0, 60, 3, 200, 0, 2, 55], 800⟩ := by decide +kernel

/-- 10: LAYER_HIDE with a corrupted byte makes fault CHECK after 6 bytes. -/
theorem test_checksum_fault :
    (after (.receiveFault (bytesAt 5000 [0xC3, 3, 30, 0x2C, 13, 170])) cabin).link.notices =
      [⟨.linkFault, [1, 6]⟩] := by decide +kernel

/-- 10: three bytes, then 2 ms without one. -/
theorem test_timeout_fault :
    let s := after .interByteTimeout (cabin.receiveAll (bytesAt 7000 [0xC3, 3, 31]))
    s.link.notices = [⟨.linkFault, [2, 3]⟩] ∧ s.clocks.now = 9120 := by decide +kernel

/-- 10: the 0xE0 notice of fault CHECK, as sent. -/
theorem test_notice_bytes :
    (after .transmitGrant (cabin.post .linkFault [1, 6])).link.tx.map Transmission.bytes =
      some [0xC3, 5, 0, 0xE0, 0, 1, 6, 0x14] := by decide +kernel

/-- 08: the first late node of the DIRECT lane is node 10. -/
theorem test_first_late_slot :
    let x : Lane := { fourNodes with bitRate := .r1600k, nodeCount := 16 }
    let f : Frame := ⟨0, false, true, false, false, 0, []⟩
    (List.range 16).find? (fun p => decide (x.slotStart f p < 32 * (p + 1))) = some 10 := by decide +kernel


/-! ### Each statement's premises are met, clause by clause -/

/-- The dispatch of a command of this payload meets the premise `Takes`. -/
abbrev Taken (kind : Byte) (len : List Byte → Bool) (payload : List Byte) (s : State) : Prop :=
  (mail kind payload s).Takes kind len (note kind payload) []

/-- The same in WAKING, for `TakesRead`. -/
abbrev TakenWaking (kind : Byte) (len : List Byte → Bool) (payload : List Byte) (s : State) : Prop :=
  (mail kind payload (inState .waking s)).TakesRead kind len (note kind payload) []

/-- O1. -/
theorem test_premises_front :
    ({ cabin with pending := [.groupTick] } : State).pending = .groupTick :: [] ∧ cabin.pending = [] := ⟨rfl, rfl⟩

/-- O4. -/
theorem test_premises_restart_reset :
    ∃ s : State, s.link.inDispatch = some (.restart [] []) ∧ s.link.replies = [] ∧
      told .restartReset s = [.restarted] :=
  ⟨cabin.hold (.restart [] []), by decide +kernel⟩

/-- O5, gaps: a start bit 2,000 µs after the last byte and one 2,001 µs after it; SOF and another byte after a gap, in each state in
which the timer runs. -/
theorem test_premises_gap :
    cabin.link.lastByteEnd = 0 ∧
      ([2040, 2041].map fun e => (after (.byteReceived ⟨2, false, e⟩) (cabin.setParser .length)).link.parser) =
        [.body 2 [], .hunting] ∧
      ([.length, .body 5 [], .checking 2 [7, 1]].map fun p =>
        (after (.byteReceived ⟨0xC3, false, 2041⟩) (cabin.setParser p)).link.notices) =
        [[⟨.linkFault, [2, 1]⟩], [⟨.linkFault, [2, 2]⟩], [⟨.linkFault, [2, 4]⟩]] ∧
      (after (.byteReceived ⟨0xC3, false, 2041⟩) (cabin.setParser (.body 5 []))).link.parser = .length := by
  decide +kernel

/-- O5: LEN at 2 and 198 against 1 and 199; the last byte of BODY; a CHK byte that is 1 off, and one with a framing
error. -/
theorem test_premises_parser :
    (cabin.link.parser = .hunting ∧ (cabin.setParser .length).link.parser = .length) ∧
      ([1, 2, 198, 199].map fun n => (after (.byteReceived ⟨n, false, 40⟩) (cabin.setParser .length)).link.parser) =
        [.hunting, .body 2 [], .body 198 [], .hunting] ∧
      ([[], [7]].map fun got => (after (.byteReceived ⟨1, false, 40⟩) (cabin.setParser (.body 2 got))).link.parser) =
        [.body 2 [1], .checking 2 [7, 1]] ∧
      (2 + byteSum [7, 1] + 0xF5 ≠ (0 : Byte)) ∧ 2 + byteSum [7, 1] + 0xF6 = (0 : Byte) ∧
      ([⟨0xF5, false, 40⟩, ⟨0xF6, true, 40⟩, ⟨0xF6, false, 40⟩].map fun b =>
        (after (.byteReceived b) (cabin.setParser (.checking 2 [7, 1]))).link.buffer.length) = [0, 0, 1] := by
  decide +kernel

/-- O6: the shortest and the longest payload, and a message in STANDBY. -/
theorem test_premises_good_message :
    (∀ n ∈ [0, 196], ∀ st ∈ [PowerState.active, .standby],
      let s := inState st cabin
      let payload := List.replicate n (0 : Byte)
      let len := BitVec.ofNat 8 (payload.length + 2)
      let chk : Byte := -(len + 7 + 0x4C)
      let rx := bytesAt 0 (0xC3 :: len :: 7 :: 0x4C :: (payload ++ [chk]))
      s.link.parser = .hunting ∧ s.link.buffer.length < 4 ∧ s.link.inDispatch = none ∧ payload.length ≤ 196 ∧
        (∀ b ∈ rx, b.framingError = false) ∧ rx.IsChain (fun a b => b.endsAt - 40 ≤ a.endsAt + 2000) ∧
        len + 7 + 0x4C + byteSum payload + chk = 0 ∧
        (after (.messageReceived rx) s).link.buffer = [⟨7, 0x4C, payload⟩] ∧
        (after (.messageReceived rx) s).power.state = if st = .standby then .waking else .active) := by
  decide +kernel

/-- A good message of KIND 0x4C with an empty payload, each byte `gap` µs after the one before it. -/
def goodBytes (gap : Nat) : List RxByte :=
  [⟨0xC3, false, 40⟩, ⟨2, false, 80 + gap⟩, ⟨7, false, 120 + 2 * gap⟩, ⟨0x4C, false, 160 + 3 * gap⟩,
    ⟨0xAB, false, 200 + 4 * gap⟩]

/-- O6: bytes 2,000 µs apart and 2,001 µs apart. -/
theorem test_premises_spread_message :
    (goodBytes 2000).IsChain (fun a b => b.endsAt - 40 ≤ a.endsAt + 2000) ∧
      (after (.messageReceived (goodBytes 2000)) cabin).link.buffer = [note 0x4C []] ∧
      (after (.messageReceived (goodBytes 2001)) cabin).link.buffer = [] := by
  decide +kernel

/-- O6, RESTART in dispatch: no reply waits; the OK waits beside a queue with room, and beside a full one; only the BUSY of an
earlier arrival waits. -/
theorem test_premises_message_at_restart :
    let r : Reply := ⟨1, 0x81, [0]⟩
    let come (own later : List Reply) (s : State) : Option Dispatched × Nat :=
      let t := after (.messageReceived (goodBytes 0)) (s.hold (.restart own later))
      (t.link.inDispatch, t.link.busyDrops)
    come [] [] cabin = (some (.restart [] []), 0) ∧
      come [r] [r] cabin = (some (.restart [r] [r, ⟨7, 0xCC, [4]⟩]), 0) ∧
      come [r] [] (full cabin) = (some (.restart [r] []), 1) ∧
      come [] [r] cabin = (some (.restart [] [r]), 0) ∧ come [] [r] (full cabin) = (some (.restart [] [r]), 0) := by
  decide +kernel

/-- O7: room for the BUSY beside a reply that waits, and none. -/
theorem test_premises_fifth_message :
    let s := cabin.setLink { cabin.link with parser := .checking 2 [7, 1], buffer := List.replicate 4 (note 1 []) }
    let r : Reply := ⟨0, 0x81, [0]⟩
    let seven := s.setLink { s.link with replies := List.replicate 7 r, inDispatch := some (.replyWaiting r) }
    4 ≤ s.link.buffer.length ∧ s.link.inDispatch = none ∧ 2 + byteSum [7, 1] + 0xF6 = (0 : Byte) ∧
      s.link.lastByteEnd + 2000 = 2040 - 40 ∧
      (after (.byteReceived ⟨0xF6, false, 2040⟩) s).link.replies = [⟨7, 0x81, [4]⟩] ∧
      (after (.byteReceived ⟨0xF6, false, 40⟩) seven).link.replies.length = 8 ∧
      (after (.byteReceived ⟨0xF6, false, 40⟩) s).link.replies = [⟨7, 0x81, [4]⟩] ∧
      (after (.byteReceived ⟨0xF6, false, 40⟩) (full s)).link.busyDrops = 1 := by
  decide +kernel

/-- O8: LEN 2 and 198 with a sum that is 1 off, and LEN 1 and 199. -/
theorem test_premises_faulty_message :
    (∀ n ∈ [2, 198],
      let body := List.replicate n (0 : Byte)
      let rx := bytesAt 0 (0xC3 :: BitVec.ofNat 8 n :: (body ++ [1 - BitVec.ofNat 8 n]))
      body.length = (BitVec.ofNat 8 n).toNat ∧ (∀ b ∈ rx, b.framingError = false) ∧
        rx.IsChain (fun a b => b.endsAt - 40 ≤ a.endsAt + 2000) ∧
        BitVec.ofNat 8 n + byteSum body + (1 - BitVec.ofNat 8 n) ≠ 0 ∧
        (after (.receiveFault rx) cabin).link.notices = [⟨.linkFault, [1, BitVec.ofNat 8 (n + 3)]⟩]) ∧
      ∀ n ∈ [1, 199], (after (.receiveFault (bytesAt 0 [0xC3, n])) cabin).link.notices = [⟨.linkFault, [0, 2]⟩] := by
  decide +kernel

/-- O9: the three states in which the timer runs. -/
theorem test_premises_timeout :
    ([.length, .body 5 [], .checking 2 [7, 1]].map fun p =>
      (after .interByteTimeout (cabin.setParser p)).link.notices) =
        [[⟨.linkFault, [2, 1]⟩], [⟨.linkFault, [2, 2]⟩], [⟨.linkFault, [2, 4]⟩]] := by
  decide +kernel

/-- O10: KIND 0x06, in ACTIVE and in WAKING. -/
theorem test_premises_bad_kind :
    (0x06 : Byte) ∉ commandKinds ∧ cabin.link.inDispatch = none ∧
      answers .dispatchBadKind 0x06 [] cabin = [[2]] ∧ answers .dispatchBadKind 0x06 [] (inState .waking cabin) = [[2]] := by
  decide +kernel

/-- O11: for every link command some payload has a wrong length, and those not served in WAKING have one of the right
length. -/
theorem test_premises_length_and_waking :
    (linkCommands.all fun c => !c.length [] || !c.length [1]) = true ∧
      (linkCommands.all fun c => c.waking || (List.range 28).any fun n => c.length (List.replicate n 1)) = true ∧
      linkCommands.length = 45 ∧ answers .dimmerSet kindDimmerSet [] cabin = [[1]] ∧
      answers .dimmerSet kindDimmerSet [1] (inState .waking cabin) = [[0x0D]] := by
  decide +kernel

/-- O12: a reply that waits beside 7 others, and the replies of RESTART with two places free: its own fill them, or end within them
with a later BUSY behind. -/
theorem test_premises_reply_join :
    let r : Reply := ⟨7, 0x81, [0]⟩
    let seven := cabin.setLink { cabin.link with replies := List.replicate 7 r, inDispatch := some (.replyWaiting r) }
    let six := cabin.setLink { cabin.link with replies := List.replicate 6 r, inDispatch := some (.restart [r, r, r] [r]) }
    seven.link.replies.length < 8 ∧ (after .replyQueueJoin seven).link.replies.length = 8 ∧
      (after .replyQueueJoin six).link.replies.length = 8 ∧
      (after .replyQueueJoin six).link.inDispatch = some (.restart [r] [r]) ∧
      (after .replyQueueJoin (six.hold (.restart [r] [r, r]))).link.inDispatch = some (.restart [] [r]) := by
  decide +kernel

/-- O13: a reply before a notice; a notice alone; neither while RESTART waits. -/
theorem test_premises_grant :
    let s := cabin.post .wake [0, 0]
    let r := s.setLink { s.link with replies := [⟨7, 0x81, [0]⟩] }
    ((after .transmitGrant r).link.replies, (after .transmitGrant r).link.notices.length) = ([], 1) ∧
      s.link.replies = [] ∧ s.link.notices = [⟨.wake, [0, 0]⟩] ∧ s.link.inDispatch = none ∧
      (after .transmitGrant s).link.notices = [] ∧
      (after .transmitGrant (s.hold (.restart [] []))).link.notices = [⟨.wake, [0, 0]⟩] := by
  decide +kernel

/-- O14: each read, in ACTIVE and in WAKING, at the ends of its operands. -/
theorem test_premises_reads_of_tables :
    Taken kindStatusRead (lenIs 0) [] cabin ∧ TakenWaking kindStatusRead (lenIs 0) [] cabin ∧
      TakenWaking kindZoneRead (lenIs 1) [15] cabin ∧ idOf 16 15 = some 15 ∧
      TakenWaking kindStackRead (lenIs 1) [15] cabin ∧
      (answers .stackRead kindStackRead [0] (lamped lamp)).map (List.take 3) = [[0, 1, 5]] ∧
      TakenWaking kindMemoryRead lenMemoryRead [1, 63] cabin ∧ parseMemoryRead [1, 63] = some (some 63) ∧
      parseMemoryRead [0] = some none ∧ TakenWaking kindPlayerRead (lenIs 1) [15] cabin := by
  decide +kernel

theorem test_premises_reads_of_levels :
    TakenWaking kindInputsRead lenInputsRead [0] cabin ∧ parseInputsRead [0] = some none ∧
      TakenWaking kindInputsRead lenInputsRead [1, 16, 16] cabin ∧
      parseInputsRead [1, 16, 16] = some (some (16, 16)) ∧
      TakenWaking kindCalRead lenCalRead [1] cabin ∧ parseCalRead [1] = some none ∧
      TakenWaking kindCalRead lenCalRead [0, 1, 7] cabin ∧ parseCalRead [0, 1, 7] = some (some (true, 7)) ∧
      TakenWaking kindSenseRead (lenIs 0) [] cabin := by
  decide +kernel

/-- O14: each read refused, one past the end of its operands. -/
theorem test_premises_reads_refused :
    ([(Instr.zoneRead, kindZoneRead, [16]), (.stackRead, kindStackRead, [16]), (.playerRead, kindPlayerRead, [16]),
        (.memoryRead, kindMemoryRead, [1, 64]), (.memoryRead, kindMemoryRead, [2]), (.inputsRead, kindInputsRead, [1, 17, 16]),
        (.inputsRead, kindInputsRead, [1, 0, 17]), (.inputsRead, kindInputsRead, [2]), (.calRead, kindCalRead, [0, 2, 0]),
        (.calRead, kindCalRead, [0, 1, 8]), (.calRead, kindCalRead, [2])].map fun x : Instr × Byte × List Byte =>
      answers x.1 x.2.1 x.2.2 cabin) = List.replicate 11 [[3]] := by
  decide +kernel

/-- O14, the fields: a DEFINED zone and an UNDEFINED one; a layer without a range; a track given, FREE and not; a player with staged
settings; a binding that is FREE. -/
theorem test_premises_read_fields :
    (cabin.zoneFields 0, cabin.zoneFields 15) = ([1, 0, 0, 4, 0, 255, 1, 0], [0]) ∧
      (lamped lamp).stackFields 0 = [1, 5, 3, 3, 0, 10, 0, 10, 0, 0, 255, 0x0F, 0xFF, 7, 8, 1, 0x2C, 0, 0, 0] ∧
      (tracked.memoryFields (some 2)).drop 66 = [0, 20, 0, 19, 0, 1, 0, 0, 0] ∧
      ((tracked.memoryFields (some 3)).length, (tracked.memoryFields none).take 2) = (66, [126, 2]) ∧
      (Player.fields ⟨settings, .paused, 0x10000, true, some 300, some newSettings⟩ tracked.pattern).take 9 =
        [3, 0, 1, 0, 0, 1, 1, 44, 1] ∧
      cabin.bindingFields 31 1 = [1, 31, 0] := by
  decide +kernel

/-- O15: all enables but the first, and a flag of 2. -/
theorem test_premises_notice_mask :
    Taken kindNoticeMask (lenIs 13) (0 :: List.replicate 12 1) cabin ∧
      (∀ k : Fin 13, (0 :: List.replicate 12 (1 : Byte)).getD k.val 0 =
        if ((Vector.replicate 13 true).set 0 false)[k] then 1 else 0) ∧
      answers .noticeMask kindNoticeMask (List.replicate 12 1 ++ [2]) cabin = [[3]] := by
  decide +kernel

/-- O16: RESTART with one message behind it. -/
theorem test_premises_restart :
    let s := cabin.setLink { cabin.link with buffer := [note kindRestart [], note kindWake []] }
    s.Takes kindRestart (lenIs 0) (note kindRestart []) [note kindWake []] ∧
      (after .restart s).link.replies.map Reply.payload = [[0], [4]] := by
  decide +kernel

/-- O17: a zone that just fits beside another, one past the end, one under a layer, one that overlaps; an empty zone, an
UNDEFINED one, one with a layer. -/
theorem test_premises_zones :
    let two := cabin.setZone 0 ⟨true, 0, 0, 2, 0, 255, .showAll⟩
    Taken kindZoneDefine (lenIs 7) [1, 0, 2, 2, 7, 255, 0] two ∧
      parseZoneDefine [1, 0, 2, 2, 7, 255, 0] = some ⟨1, 0, 2, 2, 7, 255, .blankFaulty⟩ ∧
      answers .zoneDefine kindZoneDefine [1, 0, 2, 2, 7, 255, 0] two = [[0]] ∧
      answers .zoneDefine kindZoneDefine [1, 0, 2, 3, 7, 255, 0] two = [[3]] ∧
      answers .zoneDefine kindZoneDefine [1, 0, 1, 3, 7, 255, 0] two = [[0x0A]] ∧
      answers .zoneDefine kindZoneDefine [0, 0, 0, 3, 0, 1, 0] (lamped lamp) = [[6]] ∧
      answers .zoneDefine kindZoneDefine [0, 0, 0, 4, 0, 1, 0] (lamped lamp) = [[0]] ∧
      (Taken kindZoneClear (lenIs 1) [0] cabin ∧ cabin.zoneStacks[(0 : ZoneId)] = [] ∧
        cabin.zones[(0 : ZoneId)].defined = true) ∧
      (Taken kindZoneClear (lenIs 1) [15] cabin ∧ cabin.zoneStacks[(15 : ZoneId)] = [] ∧
        cabin.zones[(15 : ZoneId)].defined = false) ∧
      answers .zoneClear kindZoneClear [0] (lamped lamp) = [[6]] ∧
      parseZoneDefine [16, 0, 2, 2, 7, 255, 0] = none ∧ answers .zoneDefine kindZoneDefine [16, 0, 2, 2, 7, 255, 0] two = [[3]] ∧
      answers .zoneClear kindZoneClear [16] cabin = [[3]] := by
  decide +kernel

/-- Layer 47 on zone 0 at priority 3, with a range of positions 2 and 3. -/
def placeFields : List Byte :=
  [47, 0, 3, 0, 0x10, 0, 0, 0, 0, 0, 0, 0, 0, 0, 0, 0, 0, 0, 255, 1, 2, 2, 0, 0, 0x27, 0x10, 1]

/-- O18: a layer of equal priority stands below the new one; a component above 4,095 is cut. -/
theorem test_premises_layer_place :
    Taken kindLayerPlace (lenIs 27) placeFields (lamped lamp) ∧
      parseLayerPlace placeFields =
        some ⟨47, 0, 3, .solid ⟨4095, 0, 0⟩, .replace, 255, some ⟨2, 2⟩, .linear, 0, 10000, true⟩ ∧
      (lamped lamp).layers[(47 : LayerId)] = none ∧ (lamped lamp).zones[(0 : ZoneId)].defined = true ∧
      (lamped lamp).zoneStacks[(0 : ZoneId)].length < 6 ∧
      (after .layerPlace (mail kindLayerPlace placeFields (lamped lamp))).zoneStacks[(0 : ZoneId)] = [5, 47] ∧
      answers .layerPlace kindLayerPlace placeFields (lamped lamp) = [[0, 1, 2]] := by
  decide +kernel

/-- O18, refusals: a range-present flag of 2; a placed layer; an UNDEFINED zone; a full stack; a range that is one too long, and one
of no nodes. -/
theorem test_premises_layer_place_refused :
    parseLayerPlace (placeFields.set 19 2) = none ∧ answers .layerPlace kindLayerPlace (placeFields.set 19 2) (lamped lamp) = [[3]] ∧
      answers .layerPlace kindLayerPlace (5 :: placeFields.tail) (lamped lamp) = [[5]] ∧
      answers .layerPlace kindLayerPlace (placeFields.set 1 15) (lamped lamp) = [[5]] ∧
      answers .layerPlace kindLayerPlace placeFields ((lamped lamp).setStack 0 [0, 1, 2, 3, 4, 5]) = [[8]] ∧
      answers .layerPlace kindLayerPlace (placeFields.set 21 3) (lamped lamp) = [[3]] ∧
      answers .layerPlace kindLayerPlace (placeFields.set 21 0) (lamped lamp) = [[3]] := by
  decide +kernel

/-- O19. -/
theorem test_premises_layer_lift :
    Taken kindLayerLift (lenIs 1) [5] (lamped lamp) ∧ (lamped lamp).layers[(5 : LayerId)] = some lamp ∧
      (after .layerLift (mail kindLayerLift [5] (lamped lamp))).zoneStacks[(0 : ZoneId)] = [] ∧
      answers .layerLift kindLayerLift [48] cabin = [[3]] ∧ Taken kindLayerLift (lenIs 1) [47] cabin ∧ cabin.layers[(47 : LayerId)] = none := by
  decide +kernel

/-- Layer 5 set to a fade time of 5. -/
def setFields : List Byte := [5, 0, 0, 0, 0, 0, 0, 0, 0, 0, 0, 0, 0, 0, 0, 2, 128, 3, 255, 0, 5]

/-- O20: each fade state, and a FREE layer. -/
theorem test_premises_layer_commands :
    Taken kindLayerSet (lenIs 21) setFields (lamped lamp) ∧
      parseLayerSet setFields = some ⟨5, .solid ⟨0, 0, 0⟩, .max, 128, .interleaved, 255, 5⟩ ∧
      ([(FadeState.parked, 0), (.rising, 8), (.steady, 10), (.falling, 3)].map fun x =>
        answers .layerSet kindLayerSet setFields (lamped { lamp with state := x.1, pos := x.2 })) =
          [[[0, 1, 0, 0]], [[0, 2, 0, 5]], [[0, 3, 0, 5]], [[0, 4, 0, 3]]] ∧
      answers .layerSet kindLayerSet setFields cabin = [[5]] ∧
      Taken kindLayerShow (lenIs 1) [5] (lamped lamp) ∧
      ([FadeState.parked, .rising, .steady, .falling].map fun x =>
        answers .layerShow kindLayerShow [5] (lamped { lamp with state := x, pos := 4 })) =
          [[[0, 2, 0, 0]], [[0, 2, 0, 4]], [[0, 3, 0, 4]], [[0, 2, 0, 4]]] ∧
      Taken kindLayerHide (lenIs 1) [5] (lamped lamp) ∧
      ([FadeState.parked, .rising, .steady, .falling].map fun x =>
        answers .layerHide kindLayerHide [5] (lamped { lamp with state := x, pos := 4 })) =
          [[[0, 1, 0, 4]], [[0, 4, 0, 4]], [[0, 4, 0, 4]], [[0, 4, 0, 4]]] ∧
      answers .layerShow kindLayerShow [5] cabin = [[5]] ∧ answers .layerHide kindLayerHide [5] cabin = [[5]] ∧
      answers .layerShow kindLayerShow [48] cabin = [[3]] ∧ answers .layerHide kindLayerHide [48] cabin = [[3]] ∧
      answers .layerSet kindLayerSet (48 :: setFields.tail) cabin = [[3]] := by
  decide +kernel

/-- O21: a rising layer one short of F and at F = 0, a falling one at 1 and at 0. -/
theorem test_premises_fade_end :
    cabin.power.state = .active ∧ TickPart.fade 5 ∉ cabin.clocks.taken ∧
      ([(FadeState.rising, 9, 10), (.rising, 0, 0), (.falling, 1, 10), (.falling, 0, 10)].map fun x =>
        ((after (.fadeEnd 5) (lamped { lamp with state := x.1, pos := x.2.1, fadeTime := x.2.2 })).layers[(5 : LayerId)]).map
          fun y => (y.state, y.pos)) =
        [some (.steady, 10), some (.steady, 0), some (.parked, 0), some (.parked, 0)] := by
  decide +kernel

/-- O22: the table at F = 0 and at F = 400, and a layer in the states of R42. -/
theorem test_premises_fade_factor :
    ([(FadeState.steady, 0, 0), (.rising, 0, 0), (.falling, 0, 0), (.rising, 100, 400), (.steady, 400, 400)].map fun x =>
      ({ lamp with state := x.1, pos := x.2.1, fadeTime := x.2.2 } : LayerRec).fadeFactor) = [256, 0, 0, 64, 256] ∧
      lamp.FadeOk := by
  decide

/-- Keyframes 18 and 19 of track 2, all fields: times 18 and 30. -/
def lastKeys : List Byte :=
  [2, 0, 18, 2, 15, 0, 18, 0, 1, 0, 2, 0, 3, 255, 2, 0, 30, 0, 1, 0x14, 0, 0, 3, 128, 0]

/-- Keyframe `i` of track 2 is left mismatched by an upset of its time. -/
def upset (i : SlotId) (s : State) : State :=
  after (.storageUpset 0 i ⟨999, 0, 0, 0, 0, .linear, 0⟩) s

/-- O23: 2 and 512 keyframes; the chain of 20 keyframes. -/
theorem test_premises_track_create :
    Taken kindTrackCreate (lenIs 3) [63, 2, 0] cabin ∧ parseTrackCreate [63, 2, 0] = some (63, 512) ∧
      parseTrackCreate [63, 0, 2] = some (63, 2) ∧ cabin.pattern.tracks[(63 : TrackId)] = none ∧
      (512 + 15) / 16 ≤ cabin.pattern.free.length ∧ cabin.pattern.free.Nodup ∧
      answers .trackCreate kindTrackCreate [63, 0, 20] cabin = [[0, 2, 0, 1, 126]] := by
  decide +kernel

/-- O23, refusals: track 64; 1 and 513 keyframes; a track that is not FREE; 20 keyframes with one block free. -/
theorem test_premises_track_create_refused :
    ([[64, 0, 20], [63, 0, 1], [63, 2, 1], [2, 0, 20]].map fun p => answers .trackCreate kindTrackCreate p tracked) =
      [[[3]], [[3]], [[3]], [[5]]] ∧
      answers .trackCreate kindTrackCreate [63, 0, 20] (cabin.setPattern { cabin.pattern with free := [127] }) = [[7]] := by
  decide +kernel

/-- O24: the last two keyframes, every field. -/
theorem test_premises_keys_write :
    Taken kindKeysWrite lenKeysWrite lastKeys tracked ∧
      (parseKeysWrite lastKeys).map (fun a => (a.track, a.first, a.count, a.maskTime, a.maskEase)) =
        some (2, 18, 2, true, true) ∧
      ((parseKeysWrite lastKeys).bind fun a => tracked.pattern.tracks[(2 : TrackId)].map fun t =>
        (decide (a.first + a.count ≤ t.count), timesInOrder (a.timesAfter t), decide t.chain.Nodup,
          decide (t.chain.length = (t.count + 15) / 16))) = some (true, true, true, true) ∧
      tracked.engine.readsTrack 2 = false ∧
      answers .keysWrite kindKeysWrite lastKeys tracked = [[0, 1, 0, 30]] := by
  decide +kernel

/-- O24, refusals: track 64; a count of 0 and of 17; a mask of 0 and of 16; an ease of 3 under its mask; a FREE track; a run past
keyframe 19; equal times, and a first time of 1. -/
theorem test_premises_keys_write_refused :
    let key (time ease : Byte) : List Byte := [0, time, 0, 0, 0, 0, 0, 0, 0, ease]
    ([[64, 0, 0, 1, 1] ++ key 0 0, [2, 0, 0, 0, 1], [2, 0, 0, 17, 1], [2, 0, 0, 1, 0] ++ key 0 0, [2, 0, 0, 1, 16] ++ key 0 0,
        [2, 0, 0, 1, 8] ++ key 0 3, [3, 0, 0, 1, 1] ++ key 0 0, [2, 0, 20, 1, 1] ++ key 20 0, [2, 0, 18, 1, 1] ++ key 19 0,
        [2, 0, 0, 1, 1] ++ key 1 0].map fun p => answers .keysWrite kindKeysWrite p tracked) =
      [[[3]], [[3]], [[3]], [[3]], [[3]], [[3]], [[5]], [[3]], [[9]], [[9]]] := by
  decide +kernel

/-- O24: the rewrite position stands before, in and at the end of the written run, and a listed keyframe is written. -/
theorem test_premises_keys_write_repairs :
    let marked (r : Nat) : State := cabin.setPattern
      { tracked.pattern with
        tracks := tracked.pattern.tracks.put 2 (tracked.pattern.tracks[(2 : TrackId)].map fun t =>
          { t with damage := [3, 18], rewrite := some r }) }
    let short : List Byte := [2, 0, 17, 1, 14, 0, 0, 0, 1, 0, 2, 0, 3, 255, 2]
    ([16, 17].map fun r => (after .keysWrite (mail kindKeysWrite short (marked r))).pattern.tracks[(2 : TrackId)].map
        fun t => (t.damage, t.rewrite)) = [some ([3, 18], some 16), some ([3, 18], some 18)] ∧
      (after .keysWrite (mail kindKeysWrite lastKeys (marked 19))).pattern.tracks[(2 : TrackId)].map
        (fun t => (t.damage, t.rewrite)) = some ([3], none) := by
  decide +kernel

/-- O25: the same write while a job reads the track. -/
theorem test_premises_keys_write_held :
    Taken kindKeysWrite lenKeysWrite lastKeys composing ∧ composing.engine.readsTrack 2 = true ∧
      composing.pattern.tracks[(2 : TrackId)] = tracked.pattern.tracks[(2 : TrackId)] ∧
      (after .keysWrite (mail kindKeysWrite lastKeys composing)).link.inDispatch =
        some (.heldKeys (note kindKeysWrite lastKeys)) := by
  decide +kernel

/-- O26: whole keyframes, and keyframe 1 alone mismatched. -/
theorem test_premises_keys_read :
    Taken kindKeysRead (lenIs 4) [2, 0, 4, 16] tracked ∧ parseKeysRead [2, 0, 4, 16] = some (2, 4, 16) ∧
      (tracked.pattern.tracks[(2 : TrackId)].map fun t =>
        (decide (4 + 16 ≤ t.count), (List.range 16).any fun j => (tracked.pattern.key t (4 + j)).mismatched)) =
          some (true, false) ∧
      ((upset 1 tracked).pattern.tracks[(2 : TrackId)].map fun t =>
        ((List.range 3).map fun j => ((upset 1 tracked).pattern.key t j).mismatched, t.damage)) =
          some ([false, true, false], []) ∧
      told .keysRead (mail kindKeysRead [2, 0, 0, 3] (upset 1 tracked)) = [.keyframeDamaged] := by
  decide +kernel

/-- O26, refusals: a count of 17; a FREE track; a run past keyframe 19. -/
theorem test_premises_keys_read_refused :
    ([[2, 0, 0, 17], [3, 0, 0, 1], [2, 0, 19, 2]].map fun p => answers .keysRead kindKeysRead p tracked) =
      [[[3]], [[5]], [[3]]] := by
  decide +kernel

/-- O26, the rows of R71: a listed keyframe; room for a fourth; 4 listed with the flag clear, and with the flag set. -/
theorem test_premises_damage_list :
    let listed (xs : List Nat) (r : Option Nat) : State :=
      let s := upset 1 tracked
      s.setPattern { s.pattern with
        tracks := s.pattern.tracks.put 2 (s.pattern.tracks[(2 : TrackId)].map fun t => { t with damage := xs, rewrite := r }) }
    let read (s : State) : Option (List Nat × Option Nat) × List NoticeKind :=
      let t := after .keysRead (mail kindKeysRead [2, 0, 0, 3] s)
      (t.pattern.tracks[(2 : TrackId)].map fun x => (x.damage, x.rewrite), t.link.notices.map Notice.kind)
    [read (listed [1] none), read (listed [2, 3, 4] none), read (listed [2, 3, 4, 5] none), read (listed [2, 3, 4, 5] (some 9))] =
      [(some ([1], none), []), (some ([2, 3, 4, 1], none), [.keyframeDamaged]),
        (some ([2, 3, 4, 5], some 0), [.keyframeDamaged]), (some ([2, 3, 4, 5], some 0), [])] := by
  decide +kernel

/-- O27: a named track, a track that the job reads, a FREE one, and one that can be freed. -/
theorem test_premises_track_free :
    Taken kindTrackFree (lenIs 1) [2] tracked ∧
      answers .trackFree kindTrackFree [2] (playing settings .idle 0) = [[6]] ∧
      (playing settings .idle 0).players[(3 : PlayerId)].names 2 = true ∧
      answers .trackFree kindTrackFree [2] (composing.setPlayer 3 { State.reset.players[(3 : PlayerId)] with elapsed := 0 }) =
        [[6]] ∧
      (∀ p : PlayerId, tracked.players[p].names 2 = false) ∧ tracked.engine.readsTrack 2 = false ∧
      answers .trackFree kindTrackFree [2] tracked = [[0, 128]] ∧ answers .trackFree kindTrackFree [63] cabin = [[0, 128]] ∧
      tracked.pattern.free.Pairwise (· ≤ ·) ∧ answers .trackFree kindTrackFree [64] cabin = [[3]] := by
  decide +kernel

/-- A set of values in range. -/
def setBytes : List Byte := [7, 15, 60, 0, 150, 0, 0, 255, 156, 16, 204, 255, 196, 0, 0, 255, 176, 17, 148, 20, 6, 4, 180, 150, 150]

/-- O29: a set that no job reads, and one that the job in progress reads. -/
theorem test_premises_calibration :
    Taken kindCalWrite (lenIs 25) setBytes cabin ∧ parseCalWrite setBytes = some (7, dashboardSet) ∧
      cabin.engine.readsSet 7 = false ∧ composing.engine.readsSet 0 = true ∧
      parseCalWrite (0 :: setBytes.tail) = some (0, dashboardSet) ∧
      (after .calWrite (mail kindCalWrite (0 :: setBytes.tail) composing)).link.inDispatch =
        some (.heldSet (note kindCalWrite (0 :: setBytes.tail))) ∧
      (after .calWrite (mail kindCalWrite setBytes composing)).cal.working[(7 : SetId)] = dashboardSet ∧
      Taken kindCalRestore (lenIs 1) [7] cabin ∧ answers .calRestore kindCalRestore [7] composing = [[0]] ∧
      (after .calRestore (mail kindCalRestore [0] composing)).link.inDispatch =
        some (.heldSet (note kindCalRestore [0])) := by
  decide +kernel

/-- O29, refusals: set 8; a coefficient of 8,192; a temperature coefficient of 65; a current of 0. -/
theorem test_premises_calibration_refused :
    ([8 :: setBytes.tail, setBytes.set 1 32, setBytes.set 19 65, setBytes.set 22 0].map fun p =>
      answers .calWrite kindCalWrite p cabin) = [[[3]], [[3]], [[3]], [[3]]] ∧
      answers .calRestore kindCalRestore [8] cabin = [[3]] := by
  decide +kernel

/-- O30: the last entry of the curve, the whole curve, index 63 and 64, factors 256 and 257. -/
theorem test_premises_levels :
    Taken kindCurveWrite lenCurveWrite [63, 1, 3, 255] cabin ∧ parseCurveWrite [63, 1, 3, 255] = some (63, [1023]) ∧
      (parseCurveWrite (0 :: 64 :: List.replicate 128 0)).isSome = true ∧
      answers .curveWrite kindCurveWrite [63, 1, 4, 0] cabin = [[3]] ∧
      answers .curveWrite kindCurveWrite [63, 2, 0, 0, 0, 0] cabin = [[3]] ∧
      ([63, 32].map fun i => (cabin.setWheelIndex i).cal.master .day) = [1023, 263] ∧
      Taken kindDimmerSet (lenIs 1) [63] cabin ∧ answers .dimmerSet kindDimmerSet [63] cabin = [[0]] ∧
      answers .dimmerSet kindDimmerSet [64] cabin = [[3]] ∧
      Taken kindBandFactors (lenIs 6) [1, 0, 1, 0, 0, 0] cabin ∧
      answers .bandFactors kindBandFactors [1, 0, 1, 0, 0, 0] cabin = [[0]] ∧
      answers .bandFactors kindBandFactors [1, 1, 0, 0, 0, 0] cabin = [[3]] ∧
      answers .bandFactors kindBandFactors [0, 0, 1, 1, 0, 0] cabin = [[3]] ∧
      answers .bandFactors kindBandFactors [0, 0, 0, 0, 1, 1] cabin = [[3]] := by
  decide +kernel

/-- A setup of player 3: track 2, the mode, rate 64, the loop count, tail 5, EXTEND or IGNORE, the hold point, W 100. -/
def setupFields (mode loops policy held point wrap : Byte) : List Byte :=
  [3, 1, 2, mode, 0, 64, loops, 0, 5, policy, held, 0, point, 0, 100, 1, wrap]

/-- O31, checks passed: every player state, and the states after a setup that applies at once. -/
theorem test_premises_player_setup :
    (∀ st ∈ [PlayerState.idle, .armed, .running, .paused, .tail, .holding, .ended],
      Taken kindPlayerSetup (lenIs 17) (setupFields 0 0 2 1 19 0) (playing settings st 2000)) ∧
      parsePlayerSetup (setupFields 0 0 2 1 19 0) = some ⟨3, newSettings, false⟩ ∧
      parsePlayerSetup (setupFields 0 0 2 1 19 1) = some ⟨3, newSettings, true⟩ ∧
      tracked.pattern.tracks[(2 : TrackId)].map Track.count = some 20 ∧
      ([PlayerState.idle, .armed, .running, .paused, .tail, .holding, .ended].map fun st =>
        (after .playerSetup (mail kindPlayerSetup (setupFields 0 0 2 1 19 0) (playing settings st 9999))).players[(3 : PlayerId)].state) =
          [.idle, .armed, .tail, .paused, .tail, .ended, .ended] ∧
      ([PlayerState.armed, .running, .paused, .tail].map fun st =>
        answers .playerSetup kindPlayerSetup (setupFields 0 0 2 1 19 1) (playing settings st 0)) =
          [[[0, 1]], [[0, 1]], [[0, 1]], [[0, 1]]] ∧
      ((after .playerSetup (mail kindPlayerSetup (setupFields 2 0 0 0 0 0) (playing settings .tail 9999))).players[(3 : PlayerId)].state,
        (after .playerSetup (mail kindPlayerSetup (setupFields 2 0 0 0 0 0) (playing settings .tail 9999))).players[(3 : PlayerId)].elapsed) =
          (.running, 9999 % 4864) := by
  decide +kernel

/-- O31, refusals: a rate of 0; a FREE track; no track for a player that runs; a hold point on no track; one past the last
keyframe. -/
theorem test_premises_player_setup_refused :
    parsePlayerSetup ([3, 1, 2, 0, 0, 0] ++ List.replicate 11 1) = none ∧
      answers .playerSetup kindPlayerSetup (setupFields 0 0 2 1 19 0) cabin = [[5]] ∧
      answers .playerSetup kindPlayerSetup (3 :: 0 :: (setupFields 0 0 2 1 19 0).drop 2) (playing settings .running 0) =
        [[5]] ∧
      answers .playerSetup kindPlayerSetup (3 :: 0 :: (setupFields 0 0 2 1 19 0).drop 2) cabin = [[3]] ∧
      answers .playerSetup kindPlayerSetup (setupFields 0 0 2 1 20 0) tracked = [[3]] := by
  decide +kernel

/-- O32: every row of the table, and the take of staged settings. -/
theorem test_premises_player_start :
    Taken kindPlayerStart (lenIs 1) [3] (playing settings .idle 0) ∧ answers .playerStart kindPlayerStart [3] cabin = [[5]] ∧
      answers .playerStart kindPlayerStart [16] cabin = [[3]] ∧
      ([PlayerState.idle, .armed, .ended, .holding].map fun st =>
        answers .playerStart kindPlayerStart [3] (playing settings st 9)) =
          [[[0, 0, 2, 0, 0, 0, 0]], [[0, 0, 2, 0, 0, 0, 0]], [[0, 0, 2, 0, 0, 0, 0]], [[0, 0, 2, 0, 0, 0, 0]]] ∧
      ([PlayerState.running, .paused, .tail].map fun st =>
        (answers .playerStart kindPlayerStart [3] (playing { settings with policy := .replay } st 9) ++
          answers .playerStart kindPlayerStart [3] (playing settings st 9)).map fun b => b.getD 1 0) =
            [[1, 3], [1, 3], [1, 3]] ∧
      ([PlayerState.running, .paused, .tail].map fun st =>
        (answers .playerStart kindPlayerStart [3] (playing newSettings st 4864)).map fun b => (b.getD 1 0, b.getD 2 0)) =
          [[(3, 2)], [(2, 3)], [(2, 3)]] ∧
      (∀ st ∈ [PlayerState.armed, .running, .paused, .tail],
        told .playerStart (mail kindPlayerStart [3] (tracked.setPlayer 3
          ⟨{ settings with policy := .replay }, st, 9, false, none, some newSettings⟩)) = [.stagedApplied]) ∧
      (after .playerStart (mail kindPlayerStart [3] (tracked.setPlayer 3
        ⟨{ settings with policy := .replay }, .tail, 5000, false, none, some newSettings⟩))).link.notices =
          [⟨.stagedApplied, [3, 3, 0, 0, 0x13, 0]⟩] := by
  decide +kernel

/-- O33: each player state under ARM, and STOP with staged settings. -/
theorem test_premises_arm_stop :
    Taken kindPlayerArm (lenIs 1) [3] (playing settings .idle 0) ∧ answers .playerArm kindPlayerArm [3] cabin = [[5]] ∧
      ([PlayerState.idle, .armed, .running, .paused, .tail, .holding, .ended].map fun st =>
        answers .playerArm kindPlayerArm [3] (playing settings st 9)) =
          [[[0, 1]], [[0, 1]], [[5]], [[5]], [[5]], [[0, 1]], [[0, 1]]] ∧
      Taken kindPlayerStop (lenIs 1) [15] cabin ∧
      answers .playerStop kindPlayerStop [3]
        (tracked.setPlayer 3 ⟨settings, .tail, 9, true, some 4, some newSettings⟩) = [[0, 4, 1]] ∧
      answers .playerArm kindPlayerArm [16] cabin = [[3]] ∧ answers .playerStop kindPlayerStop [16] cabin = [[3]] := by
  decide +kernel

/-- O34: E reaches the hold time exactly, and passes it; the window's last tick. -/
theorem test_premises_hold_point :
    cabin.power.state = .active ∧ TickPart.player 3 ∉ tracked.clocks.taken ∧
      (tracked.pattern.trackOf newSettings).map (fun t => t.times.getD 19 0) = some 19 ∧
      ([19 * 256 - 64, 19 * 256 - 1].map fun e =>
        let y := (after (.holdPointReached 3) (playing newSettings .running e)).players[(3 : PlayerId)]
        (y.state, y.elapsed, y.windowLeft, y.holdPassed)) =
          [(.paused, 4864, some 100, true), (.paused, 4864, some 100, true)] ∧
      (after (.windowExpiry 3) (tracked.setPlayer 3 ⟨newSettings, .paused, 4864, true, some 1, none⟩)).players[(3 : PlayerId)] =
        ⟨newSettings, .running, 4864, true, none, none⟩ := by
  decide +kernel

/-- O35: endless LOOP reaches D × 256 exactly; counted LOOP crosses its first multiple. -/
theorem test_premises_wrap :
    ([(0, 4864 - 256), (2, 4864 - 256)].map fun x =>
      ((after (.wrap 3) (playing { settings with mode := .loop, loops := x.1 } .running x.2)).players[(3 : PlayerId)].elapsed,
        (after (.wrap 3) (playing { settings with mode := .loop, loops := x.1 } .running x.2)).clocks.taken)) =
      [(0, [.player 3]), (4864, [.player 3])] ∧
      (tracked.pattern.trackOf settings).map Track.duration = some 19 := by
  decide +kernel

/-- A player's state and elapsed time, and the notices. -/
def ended (t : State) : PlayerState × Nat × List Notice :=
  (t.players[(3 : PlayerId)].state, t.players[(3 : PlayerId)].elapsed, t.link.notices)

/-- O36: the end point reached exactly, with a tail of 5 and of 0; the end of the tail. -/
theorem test_premises_tail :
    ended (after (.tailEntry 3 Choices.default) (playing { settings with tail := 5 } .running (4864 - 256))) =
        (.tail, 4864, []) ∧
      ended (after (.tailRunOut 3 Choices.default) (playing settings .running (4864 - 256))) =
        (.ended, 4864, [⟨.playerEnd, [3, 2, 0, 0, 0, 0x13, 0]⟩]) ∧
      ended (after (.tailRunOut 3 Choices.default)
        (playing { settings with tail := 5, mode := .holdLast } .tail (24 * 256 - 256))) =
        (.holding, 24 * 256, [⟨.playerEnd, [3, 2, 1, 0, 0, 0x18, 0]⟩]) ∧
      ∀ i : BindingId, tracked.answering (sourcePlayerEnd 3) i = none := by
  decide +kernel

/-- Player 3 has settings staged. -/
def staging (st new : Settings) (now : PlayerState) (e : Nat) : State :=
  tracked.setPlayer 3 ⟨st, now, e, false, none, some new⟩

/-- O35, takes: at the wrap of an endless LOOP, and at a counted one after which E is past the new end point. -/
theorem test_premises_wrap_take :
    ([0, 2].map fun loops =>
      ended (after (.wrap 3) (staging { settings with mode := .loop, loops := loops } newSettings .running (4864 - 256)))) =
      [(.running, 0, [⟨.stagedApplied, [3, 0, 0, 0, 0, 0]⟩]), (.tail, 4864, [⟨.stagedApplied, [3, 0, 0, 0, 0x13, 0]⟩])] := by
  decide +kernel

/-- O36, takes: at the tail entry by settings under which the player stays in TAIL, and by an endless LOOP; at the end. -/
theorem test_premises_tail_take :
    ([newSettings, { newSettings with mode := .loop }].map fun new =>
      ended (after (.tailEntry 3 Choices.default) (staging settings new .running (4864 - 256)))) =
        [(.tail, 4864, [⟨.stagedApplied, [3, 1, 0, 0, 0x13, 0]⟩]), (.running, 0, [⟨.stagedApplied, [3, 1, 0, 0, 0, 0]⟩])] ∧
      ended (after (.tailRunOut 3 Choices.default) (staging { settings with tail := 5 } newSettings .tail (24 * 256 - 256))) =
        (.ended, 24 * 256, [⟨.playerEnd, [3, 2, 0, 0, 0, 0x18, 0]⟩, ⟨.stagedApplied, [3, 2, 0, 0, 0x18, 0]⟩]) := by
  decide +kernel

/-- O36, a tail of 0 taken at the tail entry, and a run-out whose end a binding answers: it stops player 3 before the notice or
after it. -/
theorem test_premises_tail_ends :
    let last := { newSettings with tail := 0 }
    ended (after (.tailEntry 3 Choices.default) (staging settings last .running (4864 - 256))) =
        (.ended, 4864, [⟨.stagedApplied, [3, 1, 0, 0, 0x13, 0]⟩, ⟨.playerEnd, [3, 2, 0, 0, 0, 0x13, 0]⟩]) ∧
      ([false, true].map fun first =>
        ended (after (.tailRunOut 3 ⟨first, [], false⟩) ((playing settings .running (4864 - 256)).setBinding 31
          (some ⟨true, sourcePlayerEnd 3, .stop 3⟩)))) =
        List.replicate 2 (.idle, 0, [⟨.playerEnd, [3, 2, 0, 0, 0, 0x13, 0]⟩]) := by
  decide +kernel

/-- O37: filters 1 and 15; binding 31 to the last source and the last layer. -/
theorem test_premises_inputs :
    Taken kindLineSetup (lenIs 4) [7, 3, 15, 1] cabin ∧ parseLineSetup [7, 3, 15, 1] = some ⟨7, .both, 15, true⟩ ∧
      parseLineSetup [0, 0, 1, 0] = some ⟨0, .off, 1, false⟩ ∧
      Taken kindBind (lenIs 5) [31, 1, 53, 4, 47] cabin ∧
      parseBind [31, 1, 53, 4, 47] = some (31, ⟨true, 53, .hide 47⟩) ∧
      Taken kindUnbind (lenIs 1) [31] cabin ∧ answers .unbind kindUnbind [31] cabin = [[0]] ∧
      answers .lineSetup kindLineSetup [7, 3, 16, 1] cabin = [[3]] ∧
      answers .bind kindBind [31, 1, 54, 4, 47] cabin = [[3]] ∧ answers .unbind kindUnbind [32] cabin = [[3]] := by
  decide +kernel

def bound (a : BindAction) (src : SourceId) (s : State) : State := s.setBinding 31 (some ⟨true, src, a⟩)

/-- O38: no binding; one that shows a placed layer; one that names a FREE layer. -/
theorem test_premises_inject :
    Taken kindEventInject (lenIs 1) [15] cabin ∧ answers .eventInject kindEventInject [15] cabin = [[0, 0, 0]] ∧
      (∀ j : BindingId, j ≠ 31 → (bound (.show 5) (sourceHostEvent 15) cabin).answering (sourceHostEvent 15) j = none) ∧
      answers .eventInject kindEventInject [15] (bound (.show 5) (sourceHostEvent 15) (lamped lamp)) = [[0, 1, 0]] ∧
      answers .eventInject kindEventInject [15] (bound (.show 5) (sourceHostEvent 15) cabin) = [[0, 0, 1]] ∧
      told .eventInject (mail kindEventInject [15] (bound (.show 5) (sourceHostEvent 15) cabin)) = [.triggerSkipped] := by
  decide +kernel

/-- The tally of HOST_EVENT 0 answered by one binding, and the notices. -/
def injected (a : BindAction) (s : State) : List (List Byte) × List Notice :=
  let t := after .eventInject (mail kindEventInject [0] (bound a (sourceHostEvent 0) s))
  (t.link.replies.map Reply.payload, t.link.notices)

/-- O38, players: START, ARM and STOP taken; NO_TRACK for each; PLAYER_BUSY for ARM alone. -/
theorem test_premises_inject_players :
    ([.start 3, .arm 3, .stop 3].map fun a => injected a (playing settings .armed 0)) =
        [([[0, 1, 0]], []), ([[0, 1, 0]], []), ([[0, 1, 0]], [])] ∧
      ([.start 3, .arm 3, .stop 3].map fun a => injected a tracked) =
        [([[0, 0, 1]], [⟨.triggerSkipped, [31, 38, 0, 3, 0]⟩]), ([[0, 0, 1]], [⟨.triggerSkipped, [31, 38, 1, 3, 0]⟩]),
          ([[0, 0, 1]], [⟨.triggerSkipped, [31, 38, 2, 3, 0]⟩])] ∧
      ([.running, .paused, .tail].map fun st => injected (.arm 3) (playing settings st 0)) =
        List.replicate 3 ([[0, 0, 1]], [⟨.triggerSkipped, [31, 38, 1, 3, 1]⟩]) := by
  decide +kernel

/-- O38, layers, and two bindings in ascending order: 0 hides the layer that 31 then shows. An event number of 16. -/
theorem test_premises_inject_order :
    injected (.hide 5) (lamped lamp) = ([[0, 1, 0]], []) ∧
      injected (.hide 5) cabin = ([[0, 0, 1]], [⟨.triggerSkipped, [31, 38, 4, 5, 2]⟩]) ∧
      (after .eventInject (mail kindEventInject [0] ((bound (.show 5) (sourceHostEvent 0) (lamped lamp)).setBinding 0
        (some ⟨true, sourceHostEvent 0, .hide 5⟩)))).layers[(5 : LayerId)].map LayerRec.state = some .rising ∧
      (bound (.show 5) (sourceHostEvent 0) cabin).bindings[(31 : BindingId)] = some ⟨true, sourceHostEvent 0, .show 5⟩ ∧
      answers .eventInject kindEventInject [16] cabin = [[3]] := by
  decide +kernel

/-- Line 7 at filter `k`, at level low, one sample before its change. -/
def edged (mode : LineMode) (wake : Bool) (s : State) : State := s.setLine 7 ⟨mode, 4, wake, some false, 3⟩

/-- O39: each power state, with and without the wake enable. -/
theorem test_premises_line_edge :
    ((edged .both true cabin).lines[(7 : LineId)].level = some false ∧ TickPart.line 7 ∉ cabin.clocks.taken) ∧
      ([LineMode.off, .rise, .fall, .both].map fun mode =>
        (after (.lineEdge 7) (edged mode true (inState .waking cabin))).power.events) =
          [[], [⟨7, true⟩], [], [⟨7, true⟩]] ∧
      (after (.lineEdge 7) (edged .both false (inState .waking cabin))).power.events = [] ∧
      (after (.lineEdge 7) (edged .both true (inState .standby cabin))).power = ⟨.waking, some (.line 7), 0, [⟨7, true⟩]⟩ ∧
      (after (.lineEdge 7) (edged .both false (inState .standby cabin))).power.state = .standby ∧
      (after (.lineEdge 7) (edged .both true (inState .standby cabin))).clocks.taken = besidesLines ++ [.line 7] ∧
      (TickPart.sense ∈ besidesLines ∧ TickPart.line 0 ∉ besidesLines ∧ TickPart.channel 5 ∉ besidesLines) ∧
      (∀ st ∈ [PowerState.active, .sleeping],
        (after (.lineEdge 7) (edged .both true (inState st (bound (.show 5) 7 (lamped { lamp with state := .parked }))))).layers[(5 : LayerId)].map
          LayerRec.state = some .rising) := by
  decide +kernel

/-- R153: an edge that wakes the part at a device tick whose order names a channel first samples no channel and does not step the
phase, whichever comes first. -/
theorem test_wake_edge_samples_nothing :
    let s := senseTickNext (edged .both true (inState .standby cabin))
    ([[.channel 0, .line 7], [.line 7, .channel 0], [.line 7, .sense]].map fun order : List TickPart =>
      let t := after (.deviceTick ⟨128, 0, codes 9, order.map fun part => (part, Choices.default)⟩) s
      (t.power.state, decide (t.sense = s.sense), t.clocks.taken)) =
      List.replicate 3 (.waking, true, []) := by
  decide +kernel

def turning (last : BitVec 2) (n : Int) (index : Fin 64) : State :=
  (cabin.setWheel ⟨some last, n, none, false⟩).setWheelIndex index

/-- O40: a detent from indices 0 and 62 up, from 63 and 1 down, and at the limits. -/
theorem test_premises_detent :
    (turnOf 1 3 = .up ∧ turnOf 3 1 = .down ∧ TickPart.wheel ∉ cabin.clocks.taken ∧ cabin.power.state ≠ .standby) ∧
      ([0, 62, 63].map fun i => (after (.detent 3) (turning 1 3 i)).cal.wheelIndex) = [1, 63, 63] ∧
      ([63, 1, 0].map fun i => (after (.detent 1) (turning 3 (-3) i)).cal.wheelIndex) = [62, 0, 0] ∧
      (after (.detent 3) (turning 1 3 0)).wheel.lastDir = some .up := by
  decide +kernel

/-! ### Lanes, jobs, the sense monitor and the power controller -/

def lane1 (n : Nat) (s : State) : State := s.setLane 1 { Lane.reset with nodeCount := n }

/-- O41: the same node count and a new one; a lane that runs; a pool of 257; a zone beyond the end; a frame of 9,820 µs in
5,000 µs. -/
theorem test_premises_lane_setup :
    Taken kindLaneSetup (lenIs 7) [0, 4, 2, 1, 1, 0x13, 0x88] cabin ∧
      parseLaneSetup [0, 4, 2, 1, 1, 0x13, 0x88] = some ⟨0, 4, .r1600k, .solo, .direct, 5000⟩ ∧
      (after .laneSetup (mail kindLaneSetup [0, 4, 2, 1, 1, 0x13, 0x88] (cabin.setLane 0 { fourNodes with poll := 3 }))).lanes[(0 : LaneId)] =
        { fourNodes with poll := 3, bitRate := .r1600k, timing := .solo, latency := .direct, soloPeriod := 5000 } ∧
      (after .laneSetup (mail kindLaneSetup [1, 96, 1, 0, 0, 0x27, 0x10] cabin)).lanes[(1 : LaneId)].faults.length = 96 ∧
      (parseLaneSetup [0, 97, 1, 0, 0, 0x27, 0x10] = none ∧
        answers .laneSetup kindLaneSetup [0, 97, 1, 0, 0, 0x27, 0x10] cabin = [[3]]) ∧
      answers .laneSetup kindLaneSetup [0, 4, 1, 0, 0, 0x27, 0x10] (laneIn .running cabin) = [[5]] ∧
      answers .laneSetup kindLaneSetup [2, 96, 1, 0, 0, 0x27, 0x10]
        ((lane1 96 cabin).setLane 3 { Lane.reset with nodeCount := 61 }) = [[0x0B]] ∧
      answers .laneSetup kindLaneSetup [2, 96, 1, 0, 0, 0x27, 0x10]
        ((lane1 96 cabin).setLane 3 { Lane.reset with nodeCount := 60 }) = [[0]] ∧
      answers .laneSetup kindLaneSetup [0, 3, 1, 0, 0, 0x27, 0x10] cabin = [[6]] ∧
      answers .laneSetup kindLaneSetup [1, 96, 0, 1, 0, 0x13, 0x88] cabin = [[0x0C]] := by
  decide +kernel

/-- O42: no nodes; an enabled lane; a sag; a DIRECT lane; a busy engine and an idle one. -/
theorem test_premises_lane_enable :
    Taken kindLaneEnable (lenIs 1) [0] cabin ∧ answers .laneEnable kindLaneEnable [1] cabin = [[5]] ∧
      answers .laneEnable kindLaneEnable [0] (laneIn .paused cabin) = [[5]] ∧
      answers .laneEnable kindLaneEnable [0] composing = [[5]] ∧
      answers .laneEnable kindLaneEnable [0] (sagging cabin) = [[0, 3]] ∧
      answers .laneEnable kindLaneEnable [0] (cabin.setLane 0 { fourNodes with latency := .direct }) = [[0, 1]] ∧
      (after .laneEnable (mail kindLaneEnable [1] (lane1 4 composing))).engine.queue = [⟨1, false⟩] ∧
      cabin.engine = ⟨[], none⟩ ∧ (after .laneEnable (mail kindLaneEnable [0] cabin)).engine.job.map Job.lane = some 0 := by
  decide +kernel

def disabling (s : State) : State := s.hold (.laneDisable (note kindLaneDisable [0, 1]) 0)

/-- O43: a DISABLED lane; one with no frame; one with a frame; DARK with no frame; the end of the last frame with room for
the reply and without. -/
theorem test_premises_lane_disable :
    Taken kindLaneDisable (lenIs 2) [0, 0] cabin ∧ parseLaneDisable [0, 0] = some (0, true) ∧
      parseLaneDisable [0, 1] = some (0, false) ∧ answers .laneDisable kindLaneDisable [0, 0] cabin = [[0]] ∧
      answers .laneDisable kindLaneDisable [0, 1] (laneIn .running cabin) = [[0]] ∧
      answers .laneDisable kindLaneDisable [0, 0] (sagging (laneIn .paused cabin)) = [[0]] ∧
      (after .laneDisable (mail kindLaneDisable [0, 0] (withFrame (frameAt 4) (laneIn .running cabin)))).lanes[(0 : LaneId)].darkOwed =
        true ∧
      ((after .laneDisable (mail kindLaneDisable [0, 0] (laneIn .running cabin))).lanes[(0 : LaneId)].frame.map Frame.slots) =
        some (List.replicate 4 (some (.colour ⟨0, 0, 0⟩))) ∧
      (after (.laneDisableComplete 0 0x0000FF) (disabling (withFrame (frameAt 4) (laneIn .stopping cabin)))).link.replies =
        [⟨7, 0x92, [0]⟩] ∧
      (after (.laneDisableComplete 0 0x0000FF) (disabling (withFrame (frameAt 4) (laneIn .stopping (full cabin))))).link.inDispatch =
        some (.replyWaiting ⟨7, 0x92, [0]⟩) := by
  decide +kernel

/-- O44: ranges that end at the last position and one past it; periods 5,000, 40,000 and 4,900; the largest budget and
derate factor. -/
theorem test_premises_lane_fields :
    (TakenWaking kindLaneRead (lenIs 2) [3, 1] cabin ∧ parseLaneRead [3, 1] = some (3, true) ∧
        TakenWaking kindNodeFaultsRead (lenIs 1) [3] cabin) ∧
      (Taken kindNodeHold lenNodeHold [0, 2, 0, 1, 0, 4] cabin ∧
        parseNodeHold [0, 2, 0, 1, 0, 4] = some (0, [⟨0, 1⟩, ⟨0, 4⟩]) ∧
        answers .nodeHold kindNodeHold [0, 2, 0, 1, 0, 4] cabin = [[0, 4]] ∧
        answers .nodeHold kindNodeHold [0, 1, 1, 4] cabin = [[3]] ∧ answers .nodeHold kindNodeHold [0, 1, 0, 0] cabin = [[3]] ∧
        answers .nodeHold kindNodeHold [0, 0] cabin = [[0, 0]]) ∧
      (Taken kindGroupPeriod (lenIs 2) [0x13, 0x88] cabin ∧ answers .groupPeriod kindGroupPeriod [0x13, 0x88] cabin = [[0]] ∧
        answers .groupPeriod kindGroupPeriod [0x9C, 0x40] cabin = [[0]] ∧
        answers .groupPeriod kindGroupPeriod [0x13, 0x24] cabin = [[3]] ∧
        answers .groupPeriod kindGroupPeriod [0x13, 0x88] (cabin.setLane 1 { Lane.reset with nodeCount := 97 }) = [[0x0C]]) ∧
      Taken kindBudgetSet (lenIs 5) [3, 0x4E, 0x20, 1, 0] cabin ∧
      parseBudgetSet [3, 0x4E, 0x20, 1, 0] = some (3, 20000, 256) := by
  decide +kernel

/-- O44, the fields: lane 0 under a job that waits behind another, with a hold range. -/
theorem test_premises_lane_fields_read :
    let s := (laneIn .running cabin).setEngine ⟨[⟨0, false⟩], some (cabin.newJob ⟨1, false⟩)⟩
    (s.setLane 0 { s.lanes[(0 : LaneId)] with holdSet := [⟨1, 2⟩], underruns := 300 }).laneFields 0 =
      [2, 4, 1, 0, 0, 39, 16, 39, 16, 1, 104, 1, 0, 0, 0, 1, 0, 0, 78, 32, 0, 128, 1, 44, 1, 0, 1, 1, 2] ∧
      (s.laneFields 0).getD 11 0 = 1 ∧ (s.laneFields 1).getD 11 0 = 2 ∧ (s.laneFields 2).getD 11 0 = 0 := by
  decide +kernel

/-- O42 to O44: a budget, a derate factor, a lane number and a clear flag out of range. -/
theorem test_premises_lane_fields_refused :
    (answers .budgetSet kindBudgetSet [3, 0x4E, 0x21, 1, 0] cabin = [[3]] ∧
        answers .budgetSet kindBudgetSet [3, 0x4E, 0x20, 1, 1] cabin = [[3]] ∧
        answers .nodeHold kindNodeHold [4, 0] cabin = [[3]] ∧ answers .laneRead kindLaneRead [0, 2] cabin = [[3]] ∧
        answers .nodeFaultsRead kindNodeFaultsRead [4] cabin = [[3]]) ∧
      answers .laneEnable kindLaneEnable [4] cabin = [[3]] ∧ answers .laneDisable kindLaneDisable [0, 2] cabin = [[3]] := by
  decide +kernel

def backReady (s : State) : State := s.setLane 0 { s.lanes[(0 : LaneId)] with backReady := true }

/-- O45: a sag, a back buffer that is ready, an underrun, and STARTING with nothing ready; a solo tick. -/
theorem test_premises_refresh_ticks :
    ((sagging (laneIn .running cabin)).tickLane 0).lanes[(0 : LaneId)].state = .paused ∧
      ((backReady (laneIn .running cabin)).tickLane 0).lanes[(0 : LaneId)].frame.isSome = true ∧
      ((backReady (laneIn .starting cabin)).tickLane 0).engine.job.isSome = true ∧
      ((quiet (laneIn .running composing)).tickLane 0).link.notices = [⟨.underrun, [0, 0, 0, 0, 1]⟩] ∧
      ((laneIn .starting composing).tickLane 0).lanes[(0 : LaneId)].frame = none ∧
      (cabin.setLane 0 { fourNodes with soloDue := some 10000 }).lanes[(0 : LaneId)].soloDue = some 10000 ∧
      (after (.soloTick 0) (cabin.setLane 0 { fourNodes with soloDue := some 10000 })).lanes[(0 : LaneId)].soloDue =
        some 20000 := by
  decide +kernel

def thermally (st : ThermalState) (s : State) : State :=
  s.setSense { s.sense with thermal := s.sense.thermal.put 0 ⟨85, 105, 75, 3, st, 0, 0, 0⟩ }

def supplyIn (st : SupplyState) (s : State) : State :=
  s.setSense { s.sense with supply := { s.sense.supply with state := st } }

/-- O45: the states that blank; a tick in SLEEPING with a sag and without; a request of a lane that has a job, behind one, and on an
idle engine; a tick in STANDBY. -/
theorem test_premises_refresh_conditions :
    [thermally .normal cabin, thermally .derate cabin, thermally .cutoff cabin, supplyIn .high cabin, sagging cabin].map
        (fun s => s.blanks 0) = [false, false, true, true, false] ∧
      (((inState .sleeping (laneIn .running cabin)).tickLane 0).lanes[(0 : LaneId)].state,
        ((inState .sleeping (sagging (laneIn .running cabin))).tickLane 0).lanes[(0 : LaneId)].state) = (.running, .paused) ∧
      (composing.request 0).engine.queue = [] ∧ (composing.request 1).engine.queue = [⟨1, false⟩] ∧
      (cabin.request 1).engine.job.map Job.lane = some 1 ∧
      (after .groupTick (inState .standby (backReady (laneIn .running cabin)))).lanes[(0 : LaneId)].frame = none := by
  decide +kernel

def direct (s : State) : State := s.setLane 0 { s.lanes[(0 : LaneId)] with latency := .direct }

/-- A frame of lane 0 of which no slot is known, with `n` slots sent. -/
def blindFrame (n : Nat) (closed : Bool) : Frame := ⟨0, false, true, closed, false, n, List.replicate 4 none⟩

/-- O46: a DIRECT lane with no job, with one outstanding while STARTING and RUNNING; a slot with its entry, a closed frame, a
late slot. -/
theorem test_premises_direct :
    (((direct (laneIn .starting cabin)).tickLane 0).lanes[(0 : LaneId)].state = .running ∧
        ((direct (laneIn .starting composing)).tickLane 0).lanes[(0 : LaneId)].underruns = 0 ∧
        ((direct (laneIn .running composing)).tickLane 0).lanes[(0 : LaneId)].underruns = 4 ∧
        ((direct (laneIn .running (composing.setLane 0 { fourNodes with holdSet := [⟨0, 4⟩] }))).tickLane 0).lanes[(0 : LaneId)].underruns =
          0) ∧
      (after (.directSlotDue 0) (withFrame ⟨0, true, true, false, false, 3, List.replicate 4 (some (.colour ⟨9, 9, 9⟩))⟩ cabin)).lanes[(0 : LaneId)].lastSent =
        [none, none, none, some ⟨0, 0, 0⟩] ∧
      (after (.directSlotDue 0) (withFrame (blindFrame 3 true) cabin)).lanes[(0 : LaneId)].underruns = 0 ∧
      (after (.directSlotDue 0) (withFrame ⟨0, false, true, true, false, 3, List.replicate 4 (some (.colour ⟨9, 9, 9⟩))⟩ cabin)).lanes[(0 : LaneId)].lastSent =
        [none, none, none, none] ∧
      (withFrame (blindFrame 3 false) cabin).marksHeld 0 3 = false ∧
      (after (.directSlotDue 0) (withFrame (blindFrame 3 false) cabin)).lanes[(0 : LaneId)].underruns = 1 := by
  decide +kernel

/-- The DIRECT lane 0 in a frame whose next slot is that of node `p`, and its job, which has composed the nodes below `p`; the
next one is ready at `ready`. The slot is due at 100 + 50 × p. -/
def meeting (p ready : Nat) : State :=
  let s := withFrame (blindFrame p false) (direct (laneIn .running composing))
  s.setEngine ⟨[], s.engine.job.map fun j =>
    { j with latency := .direct, duties := List.replicate p ⟨0, 0, 0⟩, readyAt := ready - 14 }⟩

/-- O46 and R142: the entry is carried when it is ready at the due time, in either order of the two steps, and is late 1 µs after.
-/
theorem test_entry_ready_when_due :
    (meeting 0 100).engine.job.map (fun j => j.nodeCost 0) = some 14 ∧
      ([100, 101].map fun ready =>
        ((after (.directSlotDue 0) (meeting 0 ready)).lanes[(0 : LaneId)].underruns,
          (after (.directSlotDue 0) (after .nodeCompose (meeting 0 ready))).lanes[(0 : LaneId)].underruns)) = [(0, 0), (1, 1)] ∧
      (after (.directSlotDue 0) (meeting 3 250)).lanes[(0 : LaneId)].lastSent =
        (after (.directSlotDue 0) (after .nodeCompose (meeting 3 250))).lanes[(0 : LaneId)].lastSent ∧
      (after (.directSlotDue 0) (meeting 3 250)).lanes[(0 : LaneId)].underruns = 0 := by
  decide +kernel

/-- R32: node 3 of a BLANK_FAULTY zone is lit and has a flag. NODE_FAULTS_READ between the slot that carries the node and its
NODE_COMPOSE: the job composes the node from the entry that the slot was sent by. Before both, the job sees the cleared entry. -/
theorem test_one_job_sees_one_entry :
    let s := (meeting 3 250).setLane 0 { (meeting 3 250).lanes[(0 : LaneId)] with faults := [0, 0, 0, 1] }
    let faulty := s.setEngine ⟨[], s.engine.job.map fun j =>
      { j with zones := j.zones.put 0 ⟨true, 0, 0, 4, 0, 255, .blankFaulty⟩, zoneStacks := j.zoneStacks.put 0 [lamp], master := 1023 }⟩
    let read (t : State) := after .nodeFaultsRead (mail kindNodeFaultsRead [0] t)
    let slot := after (.directSlotDue 0)
    let compose := after .nodeCompose
    let seen (t : State) :=
      (t.engine.job.map fun j => j.duties.getD 3 ⟨0, 0, 0⟩, t.lanes[(0 : LaneId)].faults, t.lanes[(0 : LaneId)].lastSent.getD 3 none)
    let dark : Option RGB × List FaultFlags × Option RGB := (some ⟨0, 0, 0⟩, [0, 0, 0, 0], some ⟨0, 0, 0⟩)
    let lit : Option RGB × List FaultFlags × Option RGB := (some ⟨4095, 1800, 300⟩, [0, 0, 0, 0], some ⟨4095, 1800, 300⟩)
    [seen (compose (read (slot faulty))), seen (slot (read (compose faulty))), seen (read (slot (compose faulty)))] =
        List.replicate 3 dark ∧
      [seen (compose (slot (read faulty))), seen (slot (compose (read faulty)))] = List.replicate 2 lit := by
  decide +kernel

/-- O47: an answer without flags, one with the first flag, and no answer. -/
theorem test_premises_return_window :
    ([0x0000FF, 0x0001FE, 0xFFFFFF].map fun a =>
      ((after (.returnWindowEnd 0 a) (withFrame (frameAt 4) (laneIn .running cabin))).lanes[(0 : LaneId)].faults,
        told (.returnWindowEnd 0 a) (withFrame (frameAt 4) (laneIn .running cabin)))) =
      [([0, 0, 0, 0], []), ([1, 0, 0, 0], [.nodeFault]), ([0x20, 0, 0, 0], [.nodeFault])] := by
  decide +kernel

def owing (s : State) : State := s.setLane 0 { s.lanes[(0 : LaneId)] with darkOwed := true }

/-- O47: a dark frame that is owed, with no sag and with one; the last frame of SLEEPING, and one that owes in a sag; an echo that
is 1 off, and a flag byte with bit 5 set. -/
theorem test_premises_last_frame :
    let s := withFrame (frameAt 4) (laneIn .running cabin)
    let sleeping := inState .sleeping (s.hold (.sleep (note kindSleep [0]) true))
    ((after (.returnWindowEnd 0 0x0000FF) (owing s)).lanes[(0 : LaneId)].frame.map Frame.beganAt) = some 360 ∧
      (after (.returnWindowEnd 0 0x0000FF) (owing (sagging s))).lanes[(0 : LaneId)].frame = none ∧
      (after (.returnWindowEnd 0 0x0000FF) sleeping).power.state = .standby ∧
      (after (.returnWindowEnd 0 0x0000FF) (owing (sagging sleeping))).power.state = .standby ∧
      (after (.returnWindowEnd 0 0x0000FF) (owing sleeping)).power.state = .sleeping ∧
      [answerFlags 0 0x0100FE, answerFlags 0 0x0020DF, answerFlags 0 0x001FE0] = [0x20, 0x20, 0x1F] := by
  decide +kernel

/-- The job of `composing` with all its nodes composed. -/
def composed (s : State) : State :=
  s.setEngine ⟨[], s.engine.job.map fun j => { j with duties := List.replicate 4 ⟨0, 0, 0⟩ }⟩

/-- O48: a node left to compose; a completed job with no held write, with a held KEYS_WRITE, with a held CAL_WRITE, and with a
request that waits. -/
theorem test_premises_jobs :
    (composing.engine.job.map fun j => decide (j.duties.length < j.nodeCount)) = some true ∧
      (after .nodeCompose composing).engine.job.map (fun j => (j.duties, j.readyAt)) = some ([⟨0, 0, 0⟩], 14) ∧
      (after .composeJobComplete (composed composing)).engine = ⟨[], none⟩ ∧
      ((after .keysWriteHeldApply ((composed composing).hold (.heldKeys (note kindKeysWrite lastKeys)))).link.replies.map Reply.payload) =
        [[0, 1, 0, 30]] ∧
      ((after .workingSetHeldApply ((composed composing).hold (.heldSet (note kindCalWrite (0 :: setBytes.tail))))).cal.working[(0 : SetId)]) =
        dashboardSet ∧
      ((after .composeJobComplete ((composed composing).setEngine
        { (composed composing).engine with queue := [⟨1, false⟩] })).engine.job.map Job.lane) = some 1 := by
  decide +kernel

/-- O48, S1: a gradient's ends and a range of one node; each sweep order; each pick; a moment at the start of a segment and one
below its end; the three weights. -/
theorem test_premises_sampling :
    [gradientAt 5 0 100 200, gradientAt 5 4 100 200, gradientAt 1 0 100 200] = [100, 200, 100] ∧
      ([SweepOrder.linear, .reverse, .centreOut, .interleaved].map fun o => sweepRank o 6 5) = [5, 0, 2, 4] ∧
      [pickAt .loop 2 10 3 5120, pickAt .loop 2 10 3 5119, pickAt .loop 0 10 3 (-1), pickAt .once 0 10 3 (-1), pickAt .once 0 10 3 2559,
          pickAt .once 0 10 3 2560, pickAt .holdLast 0 10 3 2560] =
        [.nothing, .moment 9, .moment 9, .single 0, .moment 9, .nothing, .single 2] ∧
      [0, 9, 10].Pairwise (· < ·) ∧ ([0, 8, 9].map (segmentAt [0, 9, 10])) = [0, 0, 1] ∧
      ([Ease.step, .linear, .smooth].map fun e => easeWeight e 5 0 10) = [0, 2048, 2048] := by
  decide +kernel

/-- The mismatched keyframes that a sample of track 2 reads. -/
def reads (pm : PatternMemory) (sample : PatternMemory → Track → Sampled) : Option (List Nat) :=
  pm.tracks[(2 : TrackId)].map fun t => (sample pm t).found.map Prod.snd

/-- O48: track 2 with keyframe 1 mismatched: the held keyframe below 1 and below 2, the segment from 1 on, the last keyframe, and
a segment of whole keyframes; with keyframe 0 mismatched nothing holds. -/
theorem test_premises_damaged_keys :
    [reads (upset 1 tracked).pattern fun pm t => pm.heldBelow 2 t [] 1,
        reads (upset 1 tracked).pattern fun pm t => pm.heldBelow 2 t [] 2,
        reads (upset 1 tracked).pattern fun pm t => pm.sampleTrack 2 t .once 0 256,
        reads (upset 1 tracked).pattern fun pm t => pm.sampleTrack 2 t .holdLast 0 4864,
        reads (upset 1 tracked).pattern fun pm t => pm.sampleTrack 2 t .once 0 768,
        reads (upset 0 tracked).pattern fun pm t => pm.sampleTrack 2 t .once 0 (-1)] =
      [some [], some [1], some [1], some [], some [], some [0]] := by
  decide +kernel

/-- The job of lane 0 with a solid layer of zone 0, under a fault policy. -/
def solidJob (policy : FaultPolicy) : Job :=
  State.newJob (((lamped lamp).setZone 0 ⟨true, 0, 0, 4, 0, 255, policy⟩).setWorking 0 plainSet) ⟨0, false⟩

/-- O48, S2 to S6: a node of a zone and one past it; a fault under each policy; the three blends; the level; the sources of a
player in each state. -/
theorem test_premises_stages :
    (((solidJob .showAll).zones[(0 : ZoneId)].defined, (solidJob .showAll).layersAt 3, (solidJob .showAll).layersAt 4) =
        (true, 1, 0)) ∧
      ((solidJob .showAll).zoneOf 4 = none) ∧
      ([FaultPolicy.showAll, .blankFaulty].map fun policy =>
        ((solidJob policy).node tracked.pattern (Vector.replicate 8 plainSet) 1 3).1) =
          [(RGB.mk 4095 1800 300).map (levelled 255 263), ⟨0, 0, 0⟩] ∧
      ([Blend.replace, .add, .max].map fun b => blendOne b 255 4000 200) = [4000, 4095, 4000] ∧
      ([PlayerState.idle, .armed, .running, .paused, .tail, .holding, .ended].map PlayerState.shows) =
        [false, false, true, true, true, true, false] := by
  decide +kernel

/-- O48, the lane's take: before the slot has been sent and after it, in time and late, and closed. -/
theorem test_premises_take_entry :
    let x := (direct (withFrame (blindFrame 1 false) cabin)).lanes[(0 : LaneId)]
    ([(1, 150), (1, 151), (0, 100)].map fun e => (x.takeEntry e.1 e.2 .hold).frame.map Frame.slots) =
      [some [none, some .hold, none, none], some [none, none, none, none], some [none, none, none, none]] ∧
      (x.closeFeed.takeEntry 1 150 .hold) = x.closeFeed ∧ ({ x with frame := none }.takeEntry 1 150 .hold).frame = none := by
  decide +kernel

/-- Lane 0 has met the condition of its cutoff twice. -/
def heating (st : ThermalState) (hot warm cool : Nat) : State :=
  senseTickNext (cabin.setSense
    { cabin.sense with thermal := cabin.sense.thermal.put 0 ⟨85, 105, 75, 3, st, hot, warm, cool⟩ })

/-- O49: settings of each machine and a P of 0; the rows of the thermal table. -/
theorem test_premises_thermal :
    Taken kindMonitorSet lenMonitorSet [0, 3, 85, 105, 75, 15] cabin ∧
      parseMonitorSet [0, 3, 85, 105, 75, 15] = some (.thermal 3 85 105 75 15) ∧
      parseMonitorSet [1, 0x23, 0x28, 0x40, 0x74, 1] = some (.supply 9000 16500 1) ∧
      parseMonitorSet [2, 15, 255, 0, 0, 1] = some (.band 4095 0 1) ∧ parseMonitorSet [0, 3, 85, 105, 75, 0] = none ∧
      parseMonitorSet [3, 0, 0, 0, 0, 0] = none ∧ TickPart.sense ∉ cabin.clocks.taken ∧
      ([(ThermalState.normal, 2, 2, 0, 4095), (.normal, 0, 2, 0, 3103), (.derate, 0, 0, 2, 0), (.cutoff, 0, 0, 2, 0)].map fun x =>
        (after (.thermalStateChange 0 (BitVec.ofNat 12 x.2.2.2.2)) (heating x.1 x.2.1 x.2.2.1 x.2.2.2.1)).link.notices.map
          Notice.fields) =
        [[[0, 0, 2, 125]], [[0, 0, 1, 85]], [[0, 1, 0, 216]], [[0, 2, 0, 216]]] := by
  decide +kernel

/-- O49 and O50: a sample of each machine that changes no state, and the counts it leaves; a candidate that goes on, one that is
replaced, and one that the present band drops. -/
theorem test_premises_counts :
    ThermalRec.sample ⟨85, 105, 75, 3, .normal, 0, 1, 14⟩ 90 = ⟨85, 105, 75, 3, .normal, 0, 2, 0⟩ ∧
      SupplyRec.sample ⟨9000, 16500, 2, .normal, 0, 15, 1⟩ 9000 = ⟨9000, 16500, 2, .normal, 0, 15, 0⟩ ∧
      ([(some BandName.dusk, 300), (some .dusk, 299), (some .dusk, 1200)].map fun x =>
        BandRec.sample ⟨1200, 300, 5, .day, x.1, 3⟩ x.2) =
        [⟨1200, 300, 5, .day, some .dusk, 4⟩, ⟨1200, 300, 5, .day, some .night, 1⟩, ⟨1200, 300, 5, .day, none, 0⟩] := by
  decide +kernel

def supplied (st : SupplyState) (n : Nat) (s : State) : State :=
  senseTickNext (s.setSense { s.sense with supply := ⟨9000, 16500, 2, st, n, n, n⟩ })

/-- O50: the supply enters SAG, HIGH and NORMAL; a sag ends with a PAUSED lane, in ACTIVE and in WAKING; a band entered at its
fifth sample, and a new candidate with a P of 1; a sense tick. -/
theorem test_premises_supply_band :
    ([(SupplyState.normal, 1842), (.normal, 4095), (.high, 1843), (.sag, 1843)].map fun x =>
      (after (.supplyStateChange (BitVec.ofNat 12 x.2) Choices.default) (supplied x.1 1 cabin)).sense.supply.state) =
        [.sag, .high, .normal, .normal] ∧
      ([PowerState.active, .waking].map fun p =>
        (after (.supplyStateChange 1843 Choices.default) (supplied .sag 1 (inState p (laneIn .paused cabin)))).lanes[(0 : LaneId)].state) =
          [.starting, .starting] ∧
      (after (.bandEntry 300 Choices.default) (senseTickNext (cabin.setSense
        { cabin.sense with band := ⟨1200, 300, 5, .day, some .dusk, 4⟩ }))).sense.band = ⟨1200, 300, 5, .dusk, none, 0⟩ ∧
      (after (.bandEntry 299 Choices.default) (senseTickNext (cabin.setSense
        { cabin.sense with band := ⟨1200, 300, 1, .day, none, 0⟩ }))).sense.band = ⟨1200, 300, 1, .night, none, 0⟩ ∧
      (after (.senseTick (codes 1843) Choices.default) (senseTickNext cabin)).sense.codes = Vector.replicate 6 (some 1843) := by
  decide +kernel

/-- Lanes 0 and 1 are PAUSED, and the next sample ends the sag. -/
def sagEnds (s : State) : State :=
  supplied .sag 1 ((laneIn .paused s).setLane 1 { fourNodes with state := .paused })

/-- O50, the resumes of lane 1 and then lane 0: their requests on an idle engine; a job of lane 0 that is then raised before the
resume; a dark frame in SLEEPING under DARK, one that is owed, and one that has been sent. -/
theorem test_premises_sag_end :
    let ch : Choices := ⟨false, [1], false⟩
    let done (s : State) : State := after (.supplyStateChange 1843 ch) (sagEnds s)
    let dark (s : State) : State := (inState .sleeping s).hold (.sleep (note kindSleep [0]) true)
    ((done cabin).engine.job.map Job.lane, (done cabin).engine.queue) = (some 1, [⟨0, false⟩]) ∧
      ((done composing).engine.job.map fun j => (j.lane, j.stale), (done composing).engine.queue) = (some (0, true), [⟨1, false⟩]) ∧
      ((done (dark cabin)).lanes[(0 : LaneId)].frame.isSome, (done (dark cabin)).lanes[(0 : LaneId)].darkSent) = (true, true) ∧
      (done (dark (withFrame (frameAt 4) cabin))).lanes[(0 : LaneId)].darkOwed = true ∧
      (done (dark (cabin.setLane 0 { fourNodes with darkSent := true }))).lanes[(0 : LaneId)].frame = none := by
  decide +kernel

def asleep (s : State) : State := (inState .sleeping s).hold (.sleep (note kindSleep [0]) true)

/-- O51: at rest, with the buffer empty and not; a frame in flight and a job in progress under KEEP, DARK and a bad finish. -/
theorem test_premises_sleep :
    (after .standbyEntry (asleep cabin)).power.state = .standby ∧
      (after .standbyEntry (mail kindWake [] (asleep cabin))).power = ⟨.waking, some .message, 0, []⟩ ∧
      told .standbyEntry (asleep cabin) = [.standbyEntered] ∧
      Taken kindSleep (lenIs 1) [0] (withFrame (frameAt 4) (laneIn .running cabin)) ∧
      (after .sleep (mail kindSleep [0] (withFrame (frameAt 4) (laneIn .running cabin)))).lanes[(0 : LaneId)].darkOwed = true ∧
      (after .sleep (mail kindSleep [1] (withFrame (frameAt 4) (laneIn .running cabin)))).lanes[(0 : LaneId)].darkOwed = false ∧
      (after .sleep (mail kindSleep [0] (laneIn .starting composing))).lanes[(0 : LaneId)].darkSent = true ∧
      (after .sleep (mail kindSleep [0] (sagging (laneIn .starting composing)))).lanes[(0 : LaneId)].darkSent = false ∧
      answers .sleep kindSleep [2] composing = [[3]] := by
  decide +kernel

/-- O51: SLEEP that finds the lanes and the engine at rest: KEEP, DARK with no lane lit, DARK in a sag, and DARK with a lane lit. -/
theorem test_premises_sleep_at_rest :
    ([(1, cabin), (0, cabin), (0, sagging (laneIn .running cabin)), (0, laneIn .running cabin)].map fun x : Byte × State =>
      let t := after .sleep (mail kindSleep [x.1] x.2)
      (t.power.state, t.link.replies.map Reply.payload)) =
      [(.standby, [[0, 1]]), (.standby, [[0, 0]]), (.standby, [[0, 0]]), (.sleeping, [])] ∧
      (∀ l : LaneId, cabin.lanes[l].frame = none) ∧ (after .standbyEntry (asleep composing)).power.state = .sleeping := by
  decide +kernel

/-- R153 and O51: a channel of the sense tick has been sampled ahead of it when SLEEP finds the part at rest: the entry to STANDBY
waits for the tick, at which the other channels are sampled and the phase starts again. -/
theorem test_sense_tick_is_finished_before_standby :
    let begun := after (.thermalStateChange 0 4095) (heating .normal 2 2 0)
    let slept := after .sleep (mail kindSleep [1] begun)
    let t := after (.deviceTick ⟨0, 0, codes 3000, []⟩) slept
    (slept.power.state, (after .standbyEntry slept).power.state, t.power.state) = (.sleeping, .sleeping, .standby) ∧
      t.sense.codes = (Vector.replicate 6 (some 3000)).set 0 (some 4095) ∧ t.sense.phase = 0 ∧ t.wheel.resync = true ∧
      t.link.replies.map Reply.payload = [[0, 1]] := by
  decide +kernel

/-- R167, O51 and O53: SENSE_TICK, then SLEEP with a message behind it, at one moment: the rest of that device tick is passed. The
waking count and the sense phase stand at it, and go up together from the next one. -/
theorem test_sense_tick_before_waking_is_passed :
    let s := senseTickNext (cabin.setLink { cabin.link with buffer := [note kindSleep [1], note kindWake []] })
    let woken := after .sleep (after (.senseTick (codes 3000) Choices.default) s)
    let tick := after (.deviceTick ⟨0, 0, codes 9, []⟩)
    (woken.power = ⟨.waking, some .message, 0, []⟩ ∧ ∀ part ∈ besidesLines, part ∈ woken.clocks.taken) ∧
      ([tick woken, tick (tick woken)].map fun t => (t.power.count, t.sense.phase)) = [(0, 0), (1, 1)] ∧
      (tick woken).sense = woken.sense := by
  decide +kernel

/-- R167 and O6: a message starts WAKING from STANDBY, with the sense part of the coming tick taken and not. -/
theorem test_premises_message_passes_the_tick :
    ([[TickPart.sense], [.line 7], []].map fun taken =>
      let s := inState .standby (cabin.setClocks { cabin.clocks with taken := taken })
      (after (.messageReceived (goodBytes 0)) s).clocks.taken) = [besidesLines ++ [.sense], [.line 7], []] := by
  decide +kernel

/-- The twentieth tick of WAKING is next. -/
def waking (cause : WakeCause) (events : List LineEvent) (s : State) : State :=
  s.setPower ⟨.waking, some cause, 19, events⟩

/-- O52: WAKE in ACTIVE and in WAKING; the entry to ACTIVE with a line's event and an enabled lane, in a sag and not, and with
neither. -/
theorem test_premises_waking :
    (Taken kindWake (lenIs 0) [] cabin ∧ TakenWaking kindWake (lenIs 0) [] cabin) ∧ answers .wake kindWake [] cabin = [[0]] ∧
      TickPart.waking ∉ cabin.clocks.taken ∧
      (after (.wakingComplete Choices.default) (waking (.line 7) [⟨7, true⟩] (laneIn .running cabin))).lanes[(0 : LaneId)].state =
        .starting ∧
      (after (.wakingComplete ⟨false, [3, 0], true⟩) (waking .message [] (sagging (laneIn .running cabin)))).lanes[(0 : LaneId)].state =
        .paused ∧
      (after (.wakingComplete Choices.default) ((waking (.line 7) [] cabin).hold (.wake (note kindWake [])))).link.notices =
        [⟨.wake, [1, 7, 0]⟩] ∧
      (after (.wakingComplete Choices.default) ((waking .message [] cabin).hold (.wake (note kindWake [])))).link.replies =
        [⟨7, 0x84, [0]⟩] := by
  decide +kernel

/-- R167 and O52: the sample of the twentieth tick makes a sag. Whatever the order, it is in force at the entry to ACTIVE, and
WAKING_COMPLETE waits for it. -/
theorem test_sag_of_the_twentieth_tick_is_in_force :
    let s := waking .message [] (supplied .normal 1 (laneIn .running cabin))
    let low : Tab (BitVec 12) 6 := (codes 3000).set 5 0
    let entered (t : State) : PowerState × LaneState × SupplyState :=
      (t.power.state, t.lanes[(0 : LaneId)].state, t.sense.supply.state)
    ([[], [(TickPart.waking, Choices.default), (.sense, Choices.default)]].map fun order =>
      entered (after (.deviceTick ⟨0, 0, low, order⟩) s)) = List.replicate 2 (.active, .paused, .sag) ∧
      entered (after (.wakingComplete Choices.default) s) = (.waking, .running, .normal) ∧
      entered (after (.wakingComplete Choices.default) (after (.senseTick low Choices.default) s)) =
        (.active, .paused, .sag) := by
  decide +kernel

/-- O52: two pending events of one layer, in each order: the last one stands; the requests of the lanes that resume. -/
theorem test_premises_waking_order :
    let two := (bound (.show 5) 6 (lamped { lamp with state := .parked })).setBinding 0 (some ⟨true, 7, .hide 5⟩)
    ([[⟨6, true⟩, ⟨7, true⟩], [⟨7, true⟩, ⟨6, true⟩]].map fun events =>
      ((after (.wakingComplete Choices.default) (waking .message events two)).layers[(5 : LayerId)]).map LayerRec.state) =
      [some .falling, some .rising] ∧
      (let t := after (.wakingComplete ⟨false, [1], false⟩)
        (waking .message [] ((laneIn .paused cabin).setLane 1 { fourNodes with state := .running }))
       (t.engine.job.map Job.lane, t.engine.queue)) = (some 1, [⟨0, false⟩]) ∧
      (after (.wakingComplete Choices.default) (waking .message [] (laneIn .running composing))).engine.job.map Job.stale =
        some true := by
  decide +kernel

/-- O53: a device tick in each power state. -/
theorem test_premises_device_tick :
    (∀ b : BindingId, tracked.bindings[b] = none) ∧
      ([PowerState.active, .waking, .sleeping, .standby].map fun p =>
        (after (.deviceTick ⟨0, 0, codes 0, []⟩) (inState p (playing settings .running 0))).players[(3 : PlayerId)].elapsed) =
          [256, 256, 0, 0] := by
  decide +kernel

/-- O53, SLEEPING: the wheel is sampled, with STANDBY entered at the end of the tick and not. -/
theorem test_premises_sleeping_tick :
    let s := cabin.setWheel ⟨some 1, 0, none, false⟩
    ([inState .sleeping s, asleep s, asleep (withFrame (frameAt 4) s)].map fun x =>
      let t := after (.deviceTick ⟨0, 3, codes 3000, []⟩) x
      (t.power.state, t.wheel)) =
      [(.sleeping, ⟨some 3, 1, none, false⟩), (.standby, ⟨some 3, 1, none, true⟩), (.sleeping, ⟨some 3, 1, none, false⟩)] := by
  decide +kernel

/-- O53, the parts: a line below its filter, the wheel between detents, a count of 18 and a phase of 8; STANDBY; a line whose part
has been taken. -/
theorem test_premises_tick_parts :
    let s := (((edged .both true cabin).setLine 7 ⟨.both, 4, true, some false, 2⟩).setWheel ⟨some 1, 0, none, false⟩).setSense
      { cabin.sense with phase := 8 }
    let low : TickInput := ⟨128, 3, codes 9, []⟩
    let woken := after (.deviceTick low) (s.setPower ⟨.waking, some .message, 18, []⟩)
    (woken.lines[(7 : LineId)].changes, woken.wheel.transitions, woken.power.count, woken.sense.phase) = (3, 1, 19, 9) ∧
      (let t := after (.deviceTick low) (inState .standby s)
       (t.lines[(7 : LineId)].changes, t.wheel.transitions, t.sense.phase)) = (3, 0, 8) ∧
      (after (.deviceTick low) (s.setClocks { s.clocks with taken := [.line 7] })).lines[(7 : LineId)].changes = 2 := by
  decide +kernel

/-- O53, one tick of a fade in each state and at its ends, and of a line at each row. -/
theorem test_premises_fade_and_line :
    ([(FadeState.rising, 8, 10), (.rising, 9, 10), (.rising, 10, 10), (.falling, 2, 10), (.falling, 1, 10), (.steady, 10, 10),
        (.parked, 0, 10)].map fun x =>
      let y := LayerRec.tick { lamp with state := x.1, pos := x.2.1, fadeTime := x.2.2 }
      (y.state, y.pos)) =
      [(.rising, 9), (.steady, 10), (.steady, 10), (.falling, 1), (.parked, 0), (.steady, 10), (.parked, 0)] ∧
      ([(none, 0), (some true, 3), (some false, 2), (some false, 3)].map fun x : Option Bool × Nat =>
        let r := LineRec.sample ⟨.both, 4, false, x.1, x.2⟩ true
        (r.1.level, r.1.changes, r.2)) =
        [(some true, 0, none), (some true, 0, none), (some false, 3, none), (some true, 0, some true)] := by
  decide +kernel

/-- O53, one tick of player 3 in each state: RUNNING 1 short of its end, the end of a counted LOOP and of an endless one; TAIL
that its track has outgrown, and TAIL 1 short of its end; PAUSED with 2 ticks left; and the others. -/
theorem test_premises_player_tick :
    let looping (n : Nat) : Settings := { settings with mode := .loop, loops := n }
    let long : Settings := { settings with tail := 5 }
    tracked.pattern.trackOf settings = tracked.pattern.tracks[(2 : TrackId)] ∧
      ([(settings, PlayerState.running, 4607), (looping 1, .running, 4607), (looping 0, .running, 4607), (long, .tail, 4607),
          (looping 0, .tail, 9000), (long, .tail, 5887)].map fun x =>
        let r := Player.tick ⟨x.1, x.2.1, x.2.2, false, none, none⟩ 3 tracked.pattern
        (r.player.state, r.player.elapsed)) =
        [(.running, 4863), (.running, 4863), (.running, 4863), (.running, 4863), (.running, 9256), (.tail, 6143)] ∧
      (Player.tick ⟨settings, .paused, 9, true, some 2, none⟩ 3 tracked.pattern).player.windowLeft = some 1 ∧
      ([PlayerState.idle, .armed, .holding, .ended].map fun st =>
        (Player.tick ⟨settings, st, 9, false, none, none⟩ 3 tracked.pattern).player.elapsed) = [9, 9, 9, 9] := by
  decide +kernel

/-- O53, the wheel: a first pair, one after STANDBY, and each kind of transition. -/
theorem test_premises_wheel :
    ([(none, false, 0), (some 0, true, 0), (some 3, false, 2), (some 0, false, 2), (some 1, false, 2), (some 2, false, -2),
        (some 3, false, -2)].map fun x : Option (BitVec 2) × Bool × Int =>
      let r := Wheel.sample ⟨x.1, x.2.2, none, x.2.1⟩ 3
      (r.1.lastPair, r.1.transitions, r.2)) =
      [(some 3, 0, none), (some 3, 0, none), (some 3, 2, none), (some 3, 0, none), (some 3, 3, none), (some 3, -3, none),
        (some 3, -2, none)] := by
  decide +kernel

/-- O54: positions 0 and 1 are held, 0 last sent and 1 never; position 4 is in no zone. -/
theorem test_premises_demands :
    let j : Job :=
      { solidJob .showAll with
        nodeCount := 5
        holdSet := [⟨0, 2⟩]
        lastSent := [some ⟨10, 0, 0⟩, none, none, none, none]
        duties := List.replicate 5 ⟨1, 0, 0⟩ }
    (j.heldDemand (Vector.replicate 8 plainSet), j.demand (Vector.replicate 8 plainSet)) = (1800, 360) := by
  decide +kernel

/-- O54: each row of R35. -/
theorem test_premises_budget :
    [budgetScale 0 0 0, budgetScale 5 2 3, budgetScale 5 5 1, budgetScale 5 4 2, budgetScale 0 0 1] =
      [65536, 65536, 0, 32768, 0] := by
  decide

/-- A message waits to be dispatched, and its command is at the front of the queue. -/
def ready (c : Instr) (kind : Byte) (payload : List Byte) (s : State) : State :=
  { mail kind payload s with pending := [c] }

/-- O55 to O58: a state that meets the laws, and its step. -/
theorem test_premises_laws :
    ∃ s t : State, step s = .next t ∧ (s.link.Bounded ∧ s.power.OnePerLine) ∧
      (s.engine.OneJobPerLane ∧ s.engine.Busy ∧ ∀ l : LaneId, s.lanes[l].CountsOk) ∧
      (s.NodePool ∧ s.ZonesWithin ∧ s.ZonesApart ∧ s.ChainsBounded) ∧ (s.StackLaws ∧ s.FadesOk) ∧
      t.zoneStacks[(0 : ZoneId)] = [5, 47] :=
  ⟨ready .layerPlace kindLayerPlace placeFields (lamped lamp), _, rfl, by decide +kernel, by decide +kernel,
    by decide +kernel, by decide +kernel, by decide +kernel⟩

/-- O59. -/
theorem test_premises_pattern_laws :
    ∃ s t : State, step s = .next t ∧ s.PatternLaws ∧ t.pattern.tracks[(2 : TrackId)].map Track.duration = some 30 :=
  ⟨ready .keysWrite kindKeysWrite lastKeys tracked, _, rfl,
    ⟨by decide +kernel, by decide +kernel, by decide +kernel, by decide +kernel, by decide +kernel, fun _ _ h => nomatch h⟩,
    by decide +kernel⟩

end Sys2Proof.Tests
end

section
/-! SUPPORT. Rules about writing one record, dispatching and the engine's queue that the statements on zones and lanes rest on. -/

namespace Sys2Proof.Machine

/-! ### Writing one record -/

theorem Tab.put_put {α : Type} {n : Nat} (t : Tab α n) (i : Fin n) (x y : α) : (t.put i x).put i y = t.put i y :=
  Vector.set_set ..

theorem State.setLane_self (s : State) (l : LaneId) (x : Lane) : (s.setLane l x).lanes[l] = x := by
  rw [State.setLane_lanes, Tab.get_put, if_pos rfl]

@[simp] theorem State.setLane_setLane (s : State) (l : LaneId) (x y : Lane) :
    (s.setLane l x).setLane l y = s.setLane l y := by
  unfold State.setLane
  rw [Tab.put_put]

/-! ### Fields and dispatch -/

/-- A number that is in range names its object. -/
theorem idOf_val {n k : Nat} {i : Fin n} (h : k = i.val) : idOf n k = some i := by
  subst h
  exact dif_pos i.isLt

theorem idOf_out {n k : Nat} (h : n ≤ k) : idOf n k = none := dif_neg (Nat.not_lt.2 h)

/-- A property that does not look at the link is kept by a dispatch when the command's own rule keeps it. -/
theorem State.dispatch_keeps {P : State → Prop} {kind : Byte} {len : List Byte → Bool} {waking : Bool}
    {body : LinkMsg → State → State} (hlink : ∀ (s : State) (k : LinkState), P s → P (s.setLink k))
    (hbody : ∀ (m : LinkMsg) (s : State), P s → P (body m s)) {s : State} (hs : P s) :
    P (s.dispatch kind len waking body) := by
  have taken : P s.takeFront := hlink s _ hs
  rcases s.dispatch_cases kind len waking body with e | ⟨m, -, e | e | ⟨-, e⟩⟩ <;> rw [e]
  · exact hs
  · exact hlink _ _ taken
  · exact hlink _ _ taken
  · exact hbody m _ taken

/-- An answer to the message just taken, as the statements write it. -/
theorem State.Takes.answer {s : State} {kind : Byte} {len : List Byte → Bool} {m : LinkMsg} {rest : List LinkMsg}
    (h : s.Takes kind len m rest) (status : Status) (fields : List Byte) :
    s.takeFront.answer m status fields = { s with link := s.link.answered rest m status fields } := by
  obtain ⟨-, -, hb, -, -⟩ := h
  exact State.takeFront_answer hb status fields

/-- An answer and the record of a zone are written in either order. -/
theorem State.setZone_answer (s : State) (z : ZoneId) (x : ZoneRec) (m : LinkMsg) (status : Status) (f : List Byte) :
    (s.setZone z x).answer m status f = (s.answer m status f).setZone z x := rfl

/-- An answer and the record of a lane are written in either order. -/
theorem State.setLane_answer (s : State) (l : LaneId) (x : Lane) (m : LinkMsg) (status : Status) (f : List Byte) :
    (s.setLane l x).answer m status f = (s.answer m status f).setLane l x := rfl

/-! ### The engine's queue -/

/-- A lane has no job outstanding when no request and no job in progress names it. -/
theorem Engine.outstanding_eq_false {e : Engine} {l : LaneId} :
    e.outstanding l = false ↔ (∀ r ∈ e.queue, r.lane ≠ l) ∧ ∀ j ∈ e.job, j.lane ≠ l := by
  unfold Engine.outstanding
  cases e.job <;> simp

end Sys2Proof.Machine
end

section
/-! SUPPORT. What LANE_SETUP, ZONE_DEFINE and ZONE_CLEAR check and write, as facts about the zones and the chains. -/

namespace Sys2Proof.Machine

/-! ### The checks of LANE_SETUP (R5) -/

/-- The node counts of the other lanes, as a sum over those lanes. -/
theorem State.otherNodes_eq (s : State) (l : LaneId) :
    s.otherNodes l = (((List.finRange 4).filter (· ≠ l)).map fun k => s.lanes[k].nodeCount).sum := by
  unfold State.otherNodes
  induction List.finRange 4 with
  | nil => rfl
  | cons k ks ih =>
    rw [List.map_cons, List.sum_cons, ih]
    by_cases h : k = l <;> simp [h]

/-- The pool after one lane's chain is replaced. -/
theorem State.setLane_nodePool {s : State} {l : LaneId} {x : Lane} :
    (s.setLane l x).NodePool ↔ x.nodeCount + s.otherNodes l ≤ 256 := by
  unfold State.NodePool State.otherNodes
  simp only [State.setLane_lanes, Tab.get_put]
  fin_cases l <;> simp [List.finRange_succ] <;> omega

theorem State.zonesWithin_iff {s : State} {l : LaneId} {n : Nat} :
    s.zonesWithin l n = true ↔ ∀ z : ZoneId, s.zones[z].defined = true → s.zones[z].lane = l →
      s.zones[z].first + s.zones[z].count ≤ n := by
  simp only [State.zonesWithin, List.all_eq_true, List.mem_finRange, true_imp_iff, Bool.or_eq_true, Bool.not_eq_true',
    Bool.and_eq_false_imp, decide_eq_true_eq, decide_eq_false_iff_not]
  exact forall_congr' fun z => by tauto

@[simp] theorem Lane.setup_nodeCount (x : Lane) (a : LaneSetupArgs) : (x.setup a).nodeCount = a.count := by
  unfold Lane.setup
  split
  · next h => exact h.symm
  · rfl

theorem Lane.setup_fits {x : Lane} {a : LaneSetupArgs} {group : Nat} :
    (x.setup a).fits group = true ↔ Machine.frameTime a.rate a.count ≤ if a.timing = .solo then a.solo else group := by
  simp only [Lane.fits, Lane.frameTime, Lane.period, Lane.setup_nodeCount, decide_eq_true_eq]
  rfl

/-- Checks 2 to 5 of R5, in order, in the terms of the rule. -/
theorem State.laneSetupStatus_eq (s : State) (a : LaneSetupArgs) :
    s.laneSetupStatus a =
      if s.lanes[a.lane].state = .disabled ∧ s.engine.outstanding a.lane = false then
        if a.count + s.otherNodes a.lane ≤ 256 then
          if s.zonesWithin a.lane a.count = true then
            if (s.lanes[a.lane].setup a).fits s.clocks.groupPeriod = true then .ok else .timing
          else .inUse
        else .nodePool
      else .state := by
  have idle : (s.lanes[a.lane].state ≠ .disabled ∨ s.engine.outstanding a.lane = true) ↔
      ¬(s.lanes[a.lane].state = .disabled ∧ s.engine.outstanding a.lane = false) := by
    rw [not_and_or, Bool.not_eq_false]
  unfold State.laneSetupStatus
  simp only [idle, ← Nat.not_le, Bool.not_eq_true', ← Bool.not_eq_true, ite_not]

/-- LANE_SETUP refuses with a status, or writes the geometry of a lane whose checks have passed. -/
theorem cmdLaneSetup_cases (m : LinkMsg) (s : State) :
    (∃ status, cmdLaneSetup m s = s.refuse m status) ∨
      ∃ a, parseLaneSetup m.payload = some a ∧ s.laneSetupStatus a = .ok ∧
        cmdLaneSetup m s = (s.setLane a.lane (s.lanes[a.lane].setup a)).ok m [] := by
  unfold cmdLaneSetup
  split
  · exact .inl ⟨_, rfl⟩
  · next a ha =>
    split
    · next hok => exact .inr ⟨a, ha, hok, rfl⟩
    · exact .inl ⟨_, rfl⟩

theorem State.laneSetupStatus_ok {s : State} {a : LaneSetupArgs} (h : s.laneSetupStatus a = .ok) :
    a.count + s.otherNodes a.lane ≤ 256 ∧ s.zonesWithin a.lane a.count = true := by
  rw [State.laneSetupStatus_eq] at h
  split_ifs at h with _ hpool hcovered
  exact ⟨hpool, hcovered⟩

theorem parseLaneSetup_count {p : List Byte} {a : LaneSetupArgs} (h : parseLaneSetup p = some a) : a.count ≤ 96 := by
  simp only [parseLaneSetup, checkThat, Option.pure_def, Option.bind_eq_bind, Option.bind_eq_some_iff] at h
  obtain ⟨_, _, _, _, _, _, _, _, _, hc, ha⟩ := h
  obtain rfl := Option.some.inj ha
  split_ifs at hc with hb
  simp only [Bool.and_eq_true, decide_eq_true_eq] at hb
  exact hb.1.1

/-! ### The checks of ZONE_DEFINE (R10) -/

theorem runsMeet_eq_false {f n g m : Nat} : runsMeet f n g m = false ↔ f + n ≤ g ∨ g + m ≤ f := by
  simp only [runsMeet, decide_eq_false_iff_not]
  omega

theorem runsMeet_comm (f n g m : Nat) : runsMeet f n g m = runsMeet g m f n := by
  simp only [runsMeet, and_comm]

theorem State.overlaps_eq_false {s : State} {z : ZoneId} {lane : LaneId} {first count : Nat} :
    s.overlaps z lane first count = false ↔
      ∀ y : ZoneId, y ≠ z → s.zones[y].defined = true → s.zones[y].lane = lane →
        runsMeet first count s.zones[y].first s.zones[y].count = false := by
  simp only [State.overlaps, List.any_eq_false, List.mem_finRange, true_imp_iff, Bool.and_eq_true, decide_eq_true_eq,
    not_and, Bool.not_eq_true, and_imp]

/-- Checks 2 to 4 of R10, in order, in the terms of the rule. -/
theorem State.zoneStatus_eq (s : State) (a : ZoneDefineArgs) :
    s.zoneStatus a =
      if a.first + a.count ≤ s.lanes[a.lane].nodeCount then
        if s.zoneStacks[a.zone] = [] ∨ s.zones[a.zone].sameRun a = true then
          if s.overlaps a.zone a.lane a.first a.count = false then .ok else .overlap
        else .inUse
      else .range := by
  have used : (!s.zoneStacks[a.zone].isEmpty && !s.zones[a.zone].sameRun a) = true ↔
      ¬(s.zoneStacks[a.zone] = [] ∨ s.zones[a.zone].sameRun a = true) := by
    rw [Bool.and_eq_true, Bool.not_eq_true', Bool.not_eq_true', not_or, ← List.isEmpty_iff, Bool.not_eq_true,
      Bool.not_eq_true]
  unfold State.zoneStatus
  simp only [used, ← Nat.not_le, ← Bool.not_eq_false, ite_not]

theorem State.zoneStatus_ok {s : State} {a : ZoneDefineArgs} (h : s.zoneStatus a = .ok) :
    a.first + a.count ≤ s.lanes[a.lane].nodeCount ∧ s.overlaps a.zone a.lane a.first a.count = false := by
  rw [State.zoneStatus_eq] at h
  split_ifs at h with hfits _ hapart
  exact ⟨hfits, hapart⟩

/-- ZONE_DEFINE refuses with a status, or writes the record of a zone whose checks have passed. -/
theorem cmdZoneDefine_cases (m : LinkMsg) (s : State) :
    (∃ status, cmdZoneDefine m s = s.refuse m status) ∨
      ∃ a, s.zoneStatus a = .ok ∧ cmdZoneDefine m s = (s.setZone a.zone a.record).ok m [] := by
  unfold cmdZoneDefine
  split
  · exact .inl ⟨_, rfl⟩
  · next a _ =>
    split
    · next hok => exact .inr ⟨a, hok, rfl⟩
    · exact .inl ⟨_, rfl⟩

/-- ZONE_CLEAR answers without writing, or gives one zone the UNDEFINED values. -/
theorem cmdZoneClear_cases (m : LinkMsg) (s : State) :
    (∃ status, cmdZoneClear m s = s.answer m status []) ∨
      ∃ z, cmdZoneClear m s = (s.setZone z ZoneRec.undefined).ok m [] := by
  unfold cmdZoneClear
  split
  · exact .inl ⟨_, rfl⟩
  · next z _ =>
    split_ifs
    · exact .inr ⟨z, rfl⟩
    · exact .inl ⟨_, rfl⟩
    · exact .inl ⟨_, rfl⟩

end Sys2Proof.Machine
end

section
/-! The laws of the node pool and the zones. -/

namespace Sys2Proof.Machine

/-- R2 and R9 together: the node pool, the zones within their lanes, and the zones apart. -/
abbrev State.ZoneLaws (s : State) : Prop := s.NodePool ∧ s.ZonesWithin ∧ s.ZonesApart

/-- The laws of the zones look at the zone records and the node counts alone. -/
theorem State.ZoneLaws.congr {s t : State} (hz : t.zones = s.zones)
    (hc : ∀ l : LaneId, t.lanes[l].nodeCount = s.lanes[l].nodeCount) (h : s.ZoneLaws) : t.ZoneLaws := by
  simpa only [State.ZoneLaws, State.NodePool, State.ZonesWithin, State.ZonesApart, hz, hc] using h

/-- The law of the chains looks at the node counts alone. -/
theorem State.ChainsBounded.congr {s t : State} (hc : ∀ l : LaneId, t.lanes[l].nodeCount = s.lanes[l].nodeCount)
    (h : s.ChainsBounded) : t.ChainsBounded := fun l => (hc l).trans_le (h l)

theorem State.ZoneLaws.setLink {s : State} (h : s.ZoneLaws) (k : LinkState) : (s.setLink k).ZoneLaws :=
  .congr rfl (fun _ => rfl) h

/-- A new chain that keeps the pool and covers its lane's zones keeps the laws (R5, checks 3 and 4). -/
theorem State.ZoneLaws.setLane {s : State} (h : s.ZoneLaws) {l : LaneId} {x : Lane}
    (hpool : x.nodeCount + s.otherNodes l ≤ 256) (hcovered : s.zonesWithin l x.nodeCount = true) :
    (s.setLane l x).ZoneLaws := by
  obtain ⟨-, hwithin, hapart⟩ := h
  refine ⟨State.setLane_nodePool.2 hpool, fun z hz => ?_, hapart⟩
  show s.zones[z].first + s.zones[z].count ≤ ((s.setLane l x).lanes[s.zones[z].lane]).nodeCount
  rw [State.setLane_lanes, Tab.get_put]
  split
  · next hl => exact State.zonesWithin_iff.1 hcovered z hz hl.symm
  · exact hwithin z hz

/-- A zone record that is UNDEFINED, or within its lane and apart from the lane's other zones, keeps the laws (R9). -/
theorem State.ZoneLaws.setZone {s : State} (h : s.ZoneLaws) {z : ZoneId} {x : ZoneRec}
    (hfits : x.defined = true → x.first + x.count ≤ s.lanes[x.lane].nodeCount)
    (hfree : x.defined = true → s.overlaps z x.lane x.first x.count = false) : (s.setZone z x).ZoneLaws := by
  obtain ⟨hpool, hwithin, hapart⟩ := h
  refine ⟨hpool, fun y => ?_, fun y w hyw => ?_⟩
  · by_cases hy : z = y
    · simpa only [State.setZone_zones, State.setZone_lanes, Tab.get_put, if_pos hy] using hfits
    · simpa only [State.setZone_zones, State.setZone_lanes, Tab.get_put, if_neg hy] using hwithin y
  · rw [State.setZone_zones, Tab.get_put, Tab.get_put]
    by_cases hy : z = y <;> by_cases hw : z = w
    · exact absurd (hy.symm.trans hw) hyw
    · rw [if_pos hy, if_neg hw]
      exact fun dx dw e => State.overlaps_eq_false.1 (hfree dx) w (Ne.symm hw) dw e.symm
    · rw [if_neg hy, if_pos hw, runsMeet_comm]
      exact fun dy dx e => State.overlaps_eq_false.1 (hfree dx) y (Ne.symm hy) dy e
    · rw [if_neg hy, if_neg hw]
      exact hapart y w hyw

theorem cmdLaneSetup_keeps_zoneLaws (m : LinkMsg) {s : State} (h : s.ZoneLaws) : (cmdLaneSetup m s).ZoneLaws := by
  rcases cmdLaneSetup_cases m s with ⟨_, e⟩ | ⟨a, -, hok, e⟩ <;> rw [e]
  · exact h.setLink _
  · obtain ⟨hpool, hcovered⟩ := State.laneSetupStatus_ok hok
    exact (h.setLane (by simpa using hpool) (by simpa using hcovered)).setLink _

theorem cmdZoneDefine_keeps_zoneLaws (m : LinkMsg) {s : State} (h : s.ZoneLaws) : (cmdZoneDefine m s).ZoneLaws := by
  rcases cmdZoneDefine_cases m s with ⟨_, e⟩ | ⟨a, hok, e⟩ <;> rw [e]
  · exact h.setLink _
  · obtain ⟨hfits, hapart⟩ := State.zoneStatus_ok hok
    exact (h.setZone (fun _ => hfits) fun _ => hapart).setLink _

theorem cmdZoneClear_keeps_zoneLaws (m : LinkMsg) {s : State} (h : s.ZoneLaws) : (cmdZoneClear m s).ZoneLaws := by
  rcases cmdZoneClear_cases m s with ⟨_, e⟩ | ⟨z, e⟩ <;> rw [e]
  · exact h.setLink _
  · have undefined : ZoneRec.undefined.defined ≠ true := Bool.false_ne_true
    exact (h.setZone (absurd · undefined) (absurd · undefined)).setLink _

theorem cmdLaneSetup_keeps_chainsBounded (m : LinkMsg) {s : State} (h : s.ChainsBounded) :
    (cmdLaneSetup m s).ChainsBounded := by
  rcases cmdLaneSetup_cases m s with ⟨_, e⟩ | ⟨a, ha, -, e⟩ <;> rw [e]
  · exact h
  · intro l
    show ((s.setLane a.lane _).lanes[l]).nodeCount ≤ 96
    rw [State.setLane_lanes, Tab.get_put]
    split
    · exact (Lane.setup_nodeCount _ a).trans_le (parseLaneSetup_count ha)
    · exact h l

/-- After a reset the lanes have no nodes and no zone is DEFINED. -/
theorem State.afterReset_zoneLaws (cause : Byte) (now : Nat) (pattern : PatternMemory) (cal : CalStore) (q : List Instr) :
    (State.afterReset cause now pattern cal q).ZoneLaws ∧ (State.afterReset cause now pattern cal q).ChainsBounded := by
  have lanes (l : LaneId) : (State.afterReset cause now pattern cal q).lanes[l] = Lane.reset := Vector.getElem_replicate ..
  have zones (z : ZoneId) : (State.afterReset cause now pattern cal q).zones[z] = ZoneRec.undefined :=
    Vector.getElem_replicate ..
  refine ⟨⟨?_, fun z hz => ?_, fun y z _ hy => ?_⟩, fun l => ?_⟩
  · simp only [State.NodePool, lanes]
    decide
  · exact absurd (zones z ▸ hz) (by decide)
  · exact absurd (zones y ▸ hy) (by decide)
  · rw [lanes]
    decide

/-- The commands that touch the zone records or the node counts: the two resets, LANE_SETUP, ZONE_DEFINE and ZONE_CLEAR. -/
theorem touches_zones_or_chains (c : Instr) :
    (c = .powerOnReset ∨ c = .restartReset ∨ c = .laneSetup ∨ c = .zoneDefine ∨ c = .zoneClear) ∨
      Part.zones ∉ touches c ∧ Part.chains ∉ touches c := by
  cases c <;> simp [touches, State.ChangesOnly.tickParts]

theorem exec_keeps_zoneLaws (c : Instr) (s t : State) (h : s.ZoneLaws) (ht : exec c s = .next t) : t.ZoneLaws := by
  have dispatched {kind len waking} {body : LinkMsg → State → State}
      (hbody : ∀ (m : LinkMsg) (u : State), u.ZoneLaws → (body m u).ZoneLaws) :
      (s.dispatch kind len waking body).ZoneLaws := State.dispatch_keeps (fun _ k hu => hu.setLink k) hbody h
  rcases touches_zones_or_chains c with (rfl | rfl | rfl | rfl | rfl) | ⟨hz, hc⟩
  · obtain rfl := Host.Outcome.next.inj ht
    exact (State.afterReset_zoneLaws ..).1
  · obtain rfl := Host.Outcome.next.inj ht
    split
    · exact (State.afterReset_zoneLaws ..).1
    · exact h
  · obtain rfl := Host.Outcome.next.inj ht
    exact dispatched fun m _ => cmdLaneSetup_keeps_zoneLaws m
  · obtain rfl := Host.Outcome.next.inj ht
    exact dispatched fun m _ => cmdZoneDefine_keeps_zoneLaws m
  · obtain rfl := Host.Outcome.next.inj ht
    exact dispatched fun m _ => cmdZoneClear_keeps_zoneLaws m
  · exact h.congr (exec_changes c ht .zones hz) (exec_changes c ht .chains hc)

/-- The commands that touch the node counts: the two resets and LANE_SETUP. -/
theorem touches_chains (c : Instr) :
    (c = .powerOnReset ∨ c = .restartReset ∨ c = .laneSetup) ∨ Part.chains ∉ touches c := by
  cases c <;> simp [touches, State.ChangesOnly.tickParts]

theorem exec_keeps_chainsBounded (c : Instr) (s t : State) (h : s.ChainsBounded) (ht : exec c s = .next t) :
    t.ChainsBounded := by
  rcases touches_chains c with (rfl | rfl | rfl) | hc
  · obtain rfl := Host.Outcome.next.inj ht
    exact (State.afterReset_zoneLaws ..).2
  · obtain rfl := Host.Outcome.next.inj ht
    split
    · exact (State.afterReset_zoneLaws ..).2
    · exact h
  · obtain rfl := Host.Outcome.next.inj ht
    exact State.dispatch_keeps (P := State.ChainsBounded) (fun _ _ hu => hu)
      (fun m _ => cmdLaneSetup_keeps_chainsBounded m) h
  · exact h.congr (exec_changes c ht .chains hc)

/-- Settles O57: every command keeps the laws of R2 and R9, and so does every step. -/
theorem everyStepKeepsTheZonesApart : Obligations.EveryStepKeepsTheZonesApart :=
  ⟨fun _ _ => step_keeps (P := State.ZoneLaws) (fun _ _ h => h) exec_keeps_zoneLaws,
    fun _ _ => step_keeps (P := State.ChainsBounded) (fun _ _ h => h) exec_keeps_chainsBounded⟩

end Sys2Proof.Machine
end

section
/-! The zone commands as the statements write them. -/

namespace Sys2Proof.Machine

/-! ### ZONE_DEFINE (R10, R11) -/

theorem cmdZoneDefine_range {m : LinkMsg} (s : State) (h : parseZoneDefine m.payload = none) :
    cmdZoneDefine m s = s.answer m .range [] := by
  unfold cmdZoneDefine
  rw [h]
  rfl

theorem cmdZoneDefine_ok {m : LinkMsg} {s : State} {a : ZoneDefineArgs} (h : parseZoneDefine m.payload = some a)
    (hok : s.zoneStatus a = .ok) : cmdZoneDefine m s = (s.setZone a.zone a.record).answer m .ok [] := by
  unfold cmdZoneDefine
  simp only [h, hok]
  rfl

theorem cmdZoneDefine_refused {m : LinkMsg} {s : State} {a : ZoneDefineArgs} (h : parseZoneDefine m.payload = some a)
    (hne : s.zoneStatus a ≠ .ok) : cmdZoneDefine m s = s.answer m (s.zoneStatus a) [] := by
  unfold cmdZoneDefine
  simp only [h]
  rfl

theorem exec_zoneDefine {s : State} {m : LinkMsg} {rest : List LinkMsg} (h : s.Takes kindZoneDefine (lenIs 7) m rest) :
    exec .zoneDefine s = .next (cmdZoneDefine m s.takeFront) := congrArg _ (State.dispatch_takes h)

/-- The status of a ZONE_DEFINE looks at no part of the state that its dispatch changes. -/
theorem State.takeFront_zoneStatus (s : State) (a : ZoneDefineArgs) : s.takeFront.zoneStatus a = s.zoneStatus a := rfl

theorem ZoneRec.sameRun_iff {x : ZoneRec} {a : ZoneDefineArgs} :
    x.sameRun a = true ↔ x.lane = a.lane ∧ x.first = a.first ∧ x.count = a.count := decide_eq_true_iff

/-- ZONE_DEFINE with a field out of range is refused with RANGE before any other check. -/
theorem exec_zoneDefine_range {s : State} {m : LinkMsg} {rest : List LinkMsg}
    (h : s.Takes kindZoneDefine (lenIs 7) m rest) (hp : parseZoneDefine m.payload = none) :
    exec .zoneDefine s = .next { s with link := s.link.answered rest m .range [] } := by
  rw [exec_zoneDefine h, cmdZoneDefine_range _ hp, h.answer]

/-- A ZONE_DEFINE whose checks pass writes its zone's record and answers OK. -/
theorem exec_zoneDefine_ok {s : State} {m : LinkMsg} {rest : List LinkMsg} {a : ZoneDefineArgs}
    (h : s.Takes kindZoneDefine (lenIs 7) m rest) (hp : parseZoneDefine m.payload = some a) (hok : s.zoneStatus a = .ok) :
    exec .zoneDefine s = .next
      { s with zones := s.zones.put a.zone a.record, link := s.link.answered rest m .ok [] } := by
  rw [exec_zoneDefine h, cmdZoneDefine_ok hp ((s.takeFront_zoneStatus a).trans hok), State.setZone_answer, h.answer]
  rfl

/-- A ZONE_DEFINE that fails a check is refused with the status of that check. -/
theorem exec_zoneDefine_refused {s : State} {m : LinkMsg} {rest : List LinkMsg} {a : ZoneDefineArgs} {status : Status}
    (h : s.Takes kindZoneDefine (lenIs 7) m rest) (hp : parseZoneDefine m.payload = some a)
    (hst : s.zoneStatus a = status) (hne : status ≠ .ok) :
    exec .zoneDefine s = .next { s with link := s.link.answered rest m status [] } := by
  subst hst
  rw [exec_zoneDefine h, cmdZoneDefine_refused (s := s.takeFront) hp hne, h.answer, State.takeFront_zoneStatus]

/-! ### ZONE_CLEAR (R13) -/

theorem cmdZoneClear_eq {m : LinkMsg} {z : ZoneId} (s : State) (h : fieldU8 m.payload 0 = z.val) :
    cmdZoneClear m s =
      if s.zoneStacks[z] = [] then
        if s.zones[z].defined = true then (s.setZone z ZoneRec.undefined).answer m .ok [] else s.answer m .ok []
      else s.answer m .inUse [] := by
  simp only [cmdZoneClear, idOf_val h, List.isEmpty_iff]
  split_ifs <;> rfl

theorem exec_zoneClear {s : State} {m : LinkMsg} {rest : List LinkMsg} (h : s.Takes kindZoneClear (lenIs 1) m rest) :
    exec .zoneClear s = .next (cmdZoneClear m s.takeFront) := congrArg _ (State.dispatch_takes h)

/-- ZONE_CLEAR of a number that names no zone is refused with RANGE. -/
theorem exec_zoneClear_range {s : State} {m : LinkMsg} {rest : List LinkMsg}
    (h : s.Takes kindZoneClear (lenIs 1) m rest) (hz : 16 ≤ fieldU8 m.payload 0) :
    exec .zoneClear s = .next { s with link := s.link.answered rest m .range [] } := by
  have out : cmdZoneClear m s.takeFront = s.takeFront.answer m .range [] := by
    unfold cmdZoneClear
    rw [idOf_out hz]
    rfl
  rw [exec_zoneClear h, out, h.answer]

/-- What ZONE_CLEAR does to a zone, by its stack and whether it is DEFINED. -/
theorem exec_zoneClear_eq {s : State} {m : LinkMsg} {rest : List LinkMsg} {z : ZoneId}
    (h : s.Takes kindZoneClear (lenIs 1) m rest) (hz : fieldU8 m.payload 0 = z.val) :
    exec .zoneClear s = .next
      (if s.zoneStacks[z] = [] then
        if s.zones[z].defined = true then
          { s with zones := s.zones.put z ZoneRec.undefined, link := s.link.answered rest m .ok [] }
        else { s with link := s.link.answered rest m .ok [] }
      else { s with link := s.link.answered rest m .inUse [] }) := by
  rw [exec_zoneClear h, cmdZoneClear_eq _ hz, State.setZone_answer]
  simp only [h.answer]
  rfl

/-- Settles O17: the model's status of a ZONE_DEFINE is the first check of R10 that fails, and ZONE_CLEAR goes by its zone's
stack. -/
theorem zoneCommandsWriteOneZone : Obligations.ZoneCommandsWriteOneZone := by
  unfold Obligations.ZoneCommandsWriteOneZone
  refine ⟨fun s m rest => ⟨exec_zoneDefine_range, exec_zoneClear_range⟩, ?_, ?_⟩
  · intro s m rest a h hp fits free apart
    have hfree : (s.zoneStacks[a.zone] = [] ∨ s.zones[a.zone].sameRun a = true) ↔ free := by rw [ZoneRec.sameRun_iff]
    have hapart : s.overlaps a.zone a.lane a.first a.count = false ↔ apart := by
      simp only [State.overlaps_eq_false, runsMeet_eq_false, apart]
    have status := s.zoneStatus_eq a
    simp only [hfree, hapart] at status
    refine ⟨fun h1 h2 h3 => ?_, fun h1 => ?_, fun h1 h2 => ?_, fun h1 h2 h3 => ?_⟩
    · exact exec_zoneDefine_ok h hp (by rw [status, if_pos h1, if_pos h2, if_pos h3])
    · exact exec_zoneDefine_refused h hp (by rw [status, if_neg h1]) (by decide)
    · exact exec_zoneDefine_refused h hp (by rw [status, if_pos h1, if_neg h2]) (by decide)
    · exact exec_zoneDefine_refused h hp (by rw [status, if_pos h1, if_pos h2, if_neg h3]) (by decide)
  · intro s m rest z h hz
    rw [exec_zoneClear_eq h hz]
    refine ⟨fun h1 h2 => ?_, fun h1 h2 => ?_, fun h1 => ?_⟩
    · rw [if_pos h1, if_pos h2]
      rfl
    · rw [if_pos h1, if_neg (Bool.eq_false_iff.1 h2)]
    · rw [if_neg h1]

end Sys2Proof.Machine
end

section
/-! LANE_SETUP as the statement writes it. -/

namespace Sys2Proof.Machine

theorem cmdLaneSetup_range {m : LinkMsg} (s : State) (h : parseLaneSetup m.payload = none) :
    cmdLaneSetup m s = s.answer m .range [] := by
  unfold cmdLaneSetup
  rw [h]
  rfl

theorem cmdLaneSetup_ok {m : LinkMsg} {s : State} {a : LaneSetupArgs} (h : parseLaneSetup m.payload = some a)
    (hok : s.laneSetupStatus a = .ok) :
    cmdLaneSetup m s = (s.setLane a.lane (s.lanes[a.lane].setup a)).answer m .ok [] := by
  unfold cmdLaneSetup
  simp only [h, hok]
  rfl

theorem cmdLaneSetup_refused {m : LinkMsg} {s : State} {a : LaneSetupArgs} (h : parseLaneSetup m.payload = some a)
    (hne : s.laneSetupStatus a ≠ .ok) : cmdLaneSetup m s = s.answer m (s.laneSetupStatus a) [] := by
  unfold cmdLaneSetup
  simp only [h]
  rfl

theorem exec_laneSetup {s : State} {m : LinkMsg} {rest : List LinkMsg} (h : s.Takes kindLaneSetup (lenIs 7) m rest) :
    exec .laneSetup s = .next (cmdLaneSetup m s.takeFront) := congrArg _ (State.dispatch_takes h)

/-- The status of a LANE_SETUP looks at no part of the state that its dispatch changes. -/
theorem State.takeFront_laneSetupStatus (s : State) (a : LaneSetupArgs) :
    s.takeFront.laneSetupStatus a = s.laneSetupStatus a := rfl

/-- LANE_SETUP with a field out of range is refused with RANGE before any other check. -/
theorem exec_laneSetup_range {s : State} {m : LinkMsg} {rest : List LinkMsg}
    (h : s.Takes kindLaneSetup (lenIs 7) m rest) (hp : parseLaneSetup m.payload = none) :
    exec .laneSetup s = .next { s with link := s.link.answered rest m .range [] } := by
  rw [exec_laneSetup h, cmdLaneSetup_range _ hp, h.answer]

/-- A LANE_SETUP whose checks pass writes its lane's geometry and answers OK. -/
theorem exec_laneSetup_ok {s : State} {m : LinkMsg} {rest : List LinkMsg} {a : LaneSetupArgs}
    (h : s.Takes kindLaneSetup (lenIs 7) m rest) (hp : parseLaneSetup m.payload = some a)
    (hok : s.laneSetupStatus a = .ok) :
    exec .laneSetup s = .next
      { s with lanes := s.lanes.put a.lane (s.lanes[a.lane].setup a), link := s.link.answered rest m .ok [] } := by
  rw [exec_laneSetup h, cmdLaneSetup_ok hp ((s.takeFront_laneSetupStatus a).trans hok), State.setLane_answer, h.answer]
  rfl

/-- A LANE_SETUP that fails a check is refused with the status of that check. -/
theorem exec_laneSetup_refused {s : State} {m : LinkMsg} {rest : List LinkMsg} {a : LaneSetupArgs} {status : Status}
    (h : s.Takes kindLaneSetup (lenIs 7) m rest) (hp : parseLaneSetup m.payload = some a)
    (hst : s.laneSetupStatus a = status) (hne : status ≠ .ok) :
    exec .laneSetup s = .next { s with link := s.link.answered rest m status [] } := by
  subst hst
  rw [exec_laneSetup h, cmdLaneSetup_refused (s := s.takeFront) hp hne, h.answer, State.takeFront_laneSetupStatus]

/-- With the node count that the lane has, LANE_SETUP writes the other four geometry fields alone. -/
theorem Lane.setup_same {x : Lane} {a : LaneSetupArgs} (h : a.count = x.nodeCount) :
    x.setup a = { x with bitRate := a.rate, timing := a.timing, latency := a.latency, soloPeriod := a.solo } := by
  unfold Lane.setup
  rw [if_pos h]

/-- With a new node count LANE_SETUP rebuilds the lane first (R6). -/
theorem Lane.setup_new {x : Lane} {a : LaneSetupArgs} (h : a.count ≠ x.nodeCount) :
    x.setup a = { x.rebuild a.count with
      bitRate := a.rate, timing := a.timing, latency := a.latency, soloPeriod := a.solo } := by
  unfold Lane.setup
  rw [if_neg h]

/-- Settles O41: the model's status of a LANE_SETUP is the first check of R5 that fails, and R6 is the lane's rebuilding. -/
theorem laneSetupWritesTheGeometry : Obligations.LaneSetupWritesTheGeometry := by
  unfold Obligations.LaneSetupWritesTheGeometry
  refine ⟨fun s m rest => exec_laneSetup_range, ?_⟩
  intro s m rest a h hp x others idle pool covered fits refused
  have status := s.laneSetupStatus_eq a
  have hidle : (s.lanes[a.lane].state = .disabled ∧ s.engine.outstanding a.lane = false) ↔ idle := by
    rw [Engine.outstanding_eq_false]
  have hcovered : s.zonesWithin a.lane a.count = true ↔ covered := State.zonesWithin_iff
  have hfits : (s.lanes[a.lane].setup a).fits s.clocks.groupPeriod = true ↔ fits := Lane.setup_fits
  simp only [hidle, hcovered, hfits, State.otherNodes_eq] at status
  refine ⟨fun h1 h2 h3 h4 => ⟨x.setup a, exec_laneSetup_ok h hp ?_, Lane.setup_same, Lane.setup_new⟩,
    fun h1 => exec_laneSetup_refused h hp ?_ (by decide), fun h1 h2 => exec_laneSetup_refused h hp ?_ (by decide),
    fun h1 h2 h3 => exec_laneSetup_refused h hp ?_ (by decide),
    fun h1 h2 h3 h4 => exec_laneSetup_refused h hp ?_ (by decide)⟩ <;> rw [status]
  · rw [if_pos h1, if_pos h2, if_pos h3, if_pos h4]
  · rw [if_neg h1]
  · rw [if_pos h1, if_neg h2]
  · rw [if_pos h1, if_pos h2, if_neg h3]
  · rw [if_pos h1, if_pos h2, if_pos h3, if_neg h4]

end Sys2Proof.Machine
end

section
/-! SUPPORT. What a refresh tick does to a lane, by the lane's state and the power state. -/

namespace Sys2Proof.Machine

/-! ### Frames, times and requests (R4, R131, R135, R148) -/

theorem State.blanks_iff {s : State} {l : LaneId} :
    s.blanks l = true ↔ s.sense.thermal[l].state = .cutoff ∨ s.sense.supply.state = .high := by
  simp only [State.blanks, Bool.or_eq_true, decide_eq_true_eq]

theorem frameTime_eq (n : Nat) :
    frameTime .r400k n = 220 + 100 * n ∧ frameTime .r800k n = 160 + 50 * n ∧ frameTime .r1600k n = 130 + 25 * n := by
  simp only [frameTime, ceilDiv, BitRate.bits]
  omega

theorem State.sagging_iff {s : State} : s.sagging = true ↔ s.sense.supply.state = .sag := decide_eq_true_iff

/-- A lane that has a job queued or in progress asks for no other. -/
theorem State.request_outstanding {s : State} {l : LaneId} (h : s.engine.outstanding l = true) : s.request l = s :=
  if_pos h

/-- On a busy engine the request waits at the end of the queue. -/
theorem State.request_busy {s : State} {l : LaneId} {j : Job} (h : s.engine.outstanding l = false)
    (hj : s.engine.job = some j) : s.request l = { s with engine := ⟨s.engine.queue ++ [⟨l, false⟩], some j⟩ } := by
  unfold State.request
  rw [if_neg (Bool.eq_false_iff.1 h)]
  unfold State.startJob
  simp only [State.setEngine_engine, hj]
  rfl

/-- On an idle engine the request is the job at once. -/
theorem State.request_idle {s : State} {l : LaneId} (h : s.engine = ⟨[], none⟩) :
    s.request l = { s with engine := ⟨[], some (s.newJob ⟨l, false⟩)⟩ } := by
  unfold State.request
  rw [h]
  rfl

/-! ### A tick of a lane (R139, R149, R151) -/

theorem State.tickLane_dark {s : State} {l : LaneId} (h : ¬(s.lanes[l].state = .starting ∨ s.lanes[l].state = .running)) :
    s.tickLane l = s := if_neg h

/-- In STANDBY and WAKING a refresh tick does nothing. -/
theorem State.tickLane_off {s : State} (h : s.power.state = .standby ∨ s.power.state = .waking) (l : LaneId) :
    s.tickLane l = s := by
  unfold State.tickLane
  rcases h with h | h <;> simp only [h, ite_self]

theorem State.tickLane_sleeping {s : State} {l : LaneId} (hp : s.power.state = .sleeping)
    (hs : s.sense.supply.state ≠ .sag) : s.tickLane l = s := by
  unfold State.tickLane
  simp only [hp, State.sagging_iff, if_neg hs, ite_self]

/-- A sag pauses a lane at its tick. -/
theorem State.tickLane_sag {s : State} {l : LaneId} (hl : s.lanes[l].state = .starting ∨ s.lanes[l].state = .running)
    (hp : s.power.state = .sleeping ∨ s.power.state = .active) (hs : s.sense.supply.state = .sag) :
    s.tickLane l = s.setLane l s.lanes[l].pause := by
  unfold State.tickLane
  rcases hp with hp | hp <;> simp only [if_pos hl, hp, State.sagging_iff, if_pos hs]

/-- A tick of a BUFFERED lane in ACTIVE, with no sag. -/
theorem State.tickLane_buffered {s : State} {l : LaneId}
    (hl : s.lanes[l].state = .starting ∨ s.lanes[l].state = .running) (hp : s.power.state = .active)
    (hs : s.sense.supply.state ≠ .sag) (hb : s.lanes[l].latency = .buffered) : s.tickLane l = s.tickBuffered l := by
  unfold State.tickLane
  simp only [if_pos hl, hp, State.sagging_iff, if_neg hs, if_pos hb]

/-! ### Sending (R131, R140, R141) -/

/-- The lane after a BUFFERED frame of these slots has begun at a moment. -/
def Lane.sent (x : Lane) (now : Nat) (blanked : Bool) (out : List Entry) : Lane :=
  { x with
    front := out
    lastSent := List.zipWith sentAfter x.lastSent out
    sentSinceEnable := true
    frame := some ⟨now, blanked, false, false, false, x.nodeCount, out.map some⟩ }

theorem Lane.beginKnown_buffered {x : Lane} (h : x.latency = .buffered) (now : Nat) (blanked : Bool) (slots : List Entry) :
    x.beginKnown now blanked slots = x.sent now blanked (slots.map (blankEntry blanked)) := by
  unfold Lane.beginKnown
  rw [h]
  rfl

theorem State.beginFrame_buffered {s : State} {l : LaneId} (h : s.lanes[l].latency = .buffered) (slots : List Entry) :
    s.beginFrame l slots =
      s.setLane l (s.lanes[l].sent s.clocks.now (s.blanks l) (slots.map (blankEntry (s.blanks l)))) := by
  unfold State.beginFrame
  rw [Lane.beginKnown_buffered h]

/-- Blanking leaves HOLD slots as they are. -/
theorem holdSlots_blanked (x : Lane) (blanked : Bool) :
    x.holdSlots.map (blankEntry blanked) = List.replicate x.nodeCount .hold := List.map_replicate

/-- The back buffer of a BUFFERED lane is sent, unless an ON_DEMAND lane would send what it sent last. -/
theorem State.sendBack_buffered {s : State} {l : LaneId} (h : s.lanes[l].latency = .buffered) :
    s.sendBack l = s.setLane l
      { (if s.lanes[l].timing = .onDemand ∧ s.lanes[l].sentSinceEnable = true ∧
            s.lanes[l].back.map (blankEntry (s.blanks l)) = s.lanes[l].front then s.lanes[l]
          else s.lanes[l].sent s.clocks.now (s.blanks l) (s.lanes[l].back.map (blankEntry (s.blanks l)))) with
        backReady := false
        state := .running } := by
  unfold State.sendBack
  dsimp only
  split_ifs
  · rfl
  · rw [State.beginFrame_buffered (by rw [State.setLane_self]; exact h), State.setLane_setLane, State.setLane_self]
    rfl

/-- The UNDERRUN fields of a BUFFERED lane. -/
theorem underrunFields_buffered {l : LaneId} {x : Lane} (h : x.latency = .buffered) (count : Nat) :
    underrunFields l x count = [BitVec.ofNat 8 l.val, 0, 0, BitVec.ofNat 8 (count / 256), BitVec.ofNat 8 count] := by
  unfold underrunFields
  rw [h]
  rfl

/-- A lane that is not armed is not disarmed by an underrun. -/
theorem Lane.disarmed {x : Lane} {n : Nat} (h : x.armed = false) :
    { x with underruns := n, armed := false } = { x with underruns := n } := by
  rw [← h]

/-- One underrun of a lane just written: its count, and its notice when the lane is armed (R144). -/
theorem State.setLane_underrun (s : State) (l : LaneId) (x : Lane) :
    (s.setLane l x).underrun l 1 true =
      { s with
        lanes := s.lanes.put l { x with underruns := min 65535 (x.underruns + 1), armed := false }
        link := if x.armed then s.link.post .underrun (underrunFields l x (min 65535 (x.underruns + 1)))
          else s.link } := by
  unfold State.underrun
  simp only [State.setLane_self, State.setLane_setLane, Bool.and_true]
  rw [if_neg Nat.one_ne_zero]
  split_ifs with h
  · rfl
  · exact congrArg (s.setLane l) (Lane.disarmed (Bool.eq_false_iff.2 h)).symm

/-- A BUFFERED lane whose back buffer is ready sends it and asks for the next (R139). -/
theorem State.tickBuffered_ready {s : State} {l : LaneId} (h : s.lanes[l].backReady = true) :
    s.tickBuffered l = (s.sendBack l).request l := if_pos h

/-- A RUNNING lane whose job is not complete sends an all-HOLD frame and counts an underrun (R141). -/
theorem State.tickBuffered_late {s : State} {l : LaneId} (hb : s.lanes[l].backReady = false)
    (ho : s.engine.outstanding l = true) (hr : s.lanes[l].state = .running) :
    s.tickBuffered l = (s.beginFrame l s.lanes[l].holdSlots).underrun l 1 true := by
  unfold State.tickBuffered
  rw [if_neg (Bool.eq_false_iff.1 hb), if_pos (by rw [ho, hr]; rfl)]

/-- A STARTING lane with no back buffer ready does nothing (log 25). -/
theorem State.tickBuffered_starting {s : State} {l : LaneId} (hb : s.lanes[l].backReady = false)
    (hs : s.lanes[l].state = .starting) : s.tickBuffered l = s := by
  unfold State.tickBuffered
  rw [if_neg (Bool.eq_false_iff.1 hb), if_neg (by rw [hs, Bool.and_comm]; exact Bool.false_ne_true)]

/-! ### The group tick and the solo tick (R132, R134) -/

theorem foldl_lanes {α : Type} (f : α → LaneId → α) (x : α) :
    (List.finRange 4).foldl f x = f (f (f (f x 0) 1) 2) 3 := by
  rw [show List.finRange 4 = [0, 1, 2, 3] by decide]
  rfl

/-- A group tick at one lane: a SOLO lane does not follow it (R132). -/
def State.groupTickLane (l : LaneId) (s : State) : State := if s.lanes[l].timing = .solo then s else s.tickLane l

/-- The lanes that a group tick reaches are taken in ascending number. -/
theorem State.tickGroup_eq (s : State) :
    s.tickGroup = groupTickLane 3 (groupTickLane 2 (groupTickLane 1 (groupTickLane 0 s))) :=
  foldl_lanes (fun t l => groupTickLane l t) s

theorem State.groupTickLane_off {s : State} (h : s.power.state = .standby ∨ s.power.state = .waking) (l : LaneId) :
    s.groupTickLane l = s := by
  unfold State.groupTickLane
  rw [State.tickLane_off h, ite_self]

theorem State.tickGroup_off {s : State} (h : s.power.state = .standby ∨ s.power.state = .waking) : s.tickGroup = s := by
  simp only [State.tickGroup_eq, State.groupTickLane_off h]

/-- A part in STANDBY or WAKING does not sleep, so it does not enter STANDBY. -/
theorem State.standbyCheck_off {s : State} (h : s.power.state = .standby ∨ s.power.state = .waking) :
    s.standbyCheck = s := State.standbyCheck_awake (by rcases h with h | h <;> rw [h] <;> decide)

theorem State.tickSolo_due {s : State} {l : LaneId} {due : Nat} (h : s.lanes[l].soloDue = some due) :
    s.tickSolo l =
      (((s.clockTo due).setLane l
        { s.lanes[l] with soloDue := some (due + s.lanes[l].soloPeriod) }).tickLane l).standbyCheck := by
  unfold State.tickSolo
  rw [h]
  rfl

end Sys2Proof.Machine
end

section
/-! The refresh ticks as the statement writes them. -/

namespace Sys2Proof.Machine

theorem exec_groupTick (s : State) :
    exec .groupTick s =
      .next (State.groupTickLane 3 (State.groupTickLane 2 (State.groupTickLane 1
        (State.groupTickLane 0 s.groupClock)))).standbyCheck := by
  rw [← State.tickGroup_eq]
  rfl

/-- In STANDBY and WAKING a group tick moves its clock alone. -/
theorem exec_groupTick_off {s : State} (h : s.power.state = .standby ∨ s.power.state = .waking) :
    exec .groupTick s = .next s.groupClock := by
  have off : s.groupClock.power.state = .standby ∨ s.groupClock.power.state = .waking := h
  show Host.Outcome.next s.groupClock.tickGroup.standbyCheck = _
  rw [State.tickGroup_off off, State.standbyCheck_off off]

theorem exec_soloTick {s : State} {l : LaneId} {due : Nat} (h : s.lanes[l].soloDue = some due) :
    exec (.soloTick l) s =
      .next ((((s.clockTo due).setLane l
        { s.lanes[l] with soloDue := some (due + s.lanes[l].soloPeriod) }).tickLane l).standbyCheck) :=
  congrArg _ (State.tickSolo_due h)

/-- In STANDBY and WAKING a solo tick moves its lane's next tick and the clock alone. -/
theorem exec_soloTick_off {s : State} {l : LaneId} {due : Nat} (h : s.lanes[l].soloDue = some due)
    (hp : s.power.state = .standby ∨ s.power.state = .waking) :
    exec (.soloTick l) s =
      .next ((s.clockTo due).setLane l { s.lanes[l] with soloDue := some (due + s.lanes[l].soloPeriod) }) := by
  rw [exec_soloTick h, State.tickLane_off (s := (s.clockTo due).setLane l _) hp,
    State.standbyCheck_off (s := (s.clockTo due).setLane l _) hp]

/-- R139 and R140: a BUFFERED lane with its back buffer ready. -/
theorem State.tickBuffered_sends {s : State} {l : LaneId} (hb : s.lanes[l].latency = .buffered)
    (h : s.lanes[l].backReady = true) :
    s.tickBuffered l =
      (s.setLane l
        { (if s.lanes[l].timing = .onDemand ∧ s.lanes[l].sentSinceEnable = true ∧
              s.lanes[l].back.map (blankEntry (s.blanks l)) = s.lanes[l].front then s.lanes[l]
            else s.lanes[l].sent s.clocks.now (s.blanks l) (s.lanes[l].back.map (blankEntry (s.blanks l)))) with
          backReady := false
          state := .running }).request l := by
  rw [State.tickBuffered_ready h, State.sendBack_buffered hb]

/-- R141 and R144: a RUNNING BUFFERED lane whose job is late. -/
theorem State.tickBuffered_underruns {s : State} {l : LaneId} (hl : s.lanes[l].latency = .buffered)
    (hb : s.lanes[l].backReady = false) (ho : s.engine.outstanding l = true) (hr : s.lanes[l].state = .running) :
    let count := min 65535 (s.lanes[l].underruns + 1)
    s.tickBuffered l =
      { s with
        lanes := s.lanes.put l
          { s.lanes[l].sent s.clocks.now (s.blanks l) (List.replicate s.lanes[l].nodeCount .hold) with
            underruns := count
            armed := false }
        link := if s.lanes[l].armed then
            s.link.post .underrun [BitVec.ofNat 8 l.val, 0, 0, BitVec.ofNat 8 (count / 256), BitVec.ofNat 8 count]
          else s.link } := by
  intro count
  rw [State.tickBuffered_late hb ho hr, State.beginFrame_buffered hl, holdSlots_blanked, State.setLane_underrun,
    underrunFields_buffered (x := s.lanes[l].sent _ _ _) hl]
  rfl

/-- Settles O45: each clause is the lemma above for its case of the tick. -/
theorem refreshTicksOfBufferedLanes : Obligations.RefreshTicksOfBufferedLanes := by
  unfold Obligations.RefreshTicksOfBufferedLanes
  refine ⟨⟨fun s l => State.blanks_iff, fun b => rfl, fun c => ⟨rfl, rfl⟩⟩, frameTime_eq, ⟨rfl, rfl, rfl⟩, ?requests,
    fun s l => ⟨State.tickLane_dark, fun _ => State.tickLane_sleeping, State.tickLane_sag⟩,
    fun s => ⟨exec_groupTick s, exec_groupTick_off⟩, fun s l due h => ⟨exec_soloTick h, exec_soloTick_off h⟩, ?buffered⟩
  case requests =>
    intro s l free
    have hfree : s.engine.outstanding l = false ↔ free := Engine.outstanding_eq_false
    refine ⟨fun h => State.request_outstanding ?_, fun j h => State.request_busy (hfree.2 h), State.request_idle⟩
    exact Bool.of_not_eq_false fun ho => h (hfree.1 ho)
  case buffered =>
    intro s l x slots sent still hp hb hl
    refine ⟨State.tickLane_sag hl (.inr hp), fun hs => ?_⟩
    rw [State.tickLane_buffered hl hp hs hb]
    exact ⟨State.tickBuffered_sends hb, State.tickBuffered_underruns hb, State.tickBuffered_starting⟩

end Sys2Proof.Machine
end

section
/-! SUPPORT. R33 and R144 along every operation that changes a lane: its scale factor and its underrun count stay in range. -/

namespace Sys2Proof.Machine

/-- R33 and R144 of every lane. -/
abbrev State.CountsOk (s : State) : Prop := ∀ l : LaneId, s.lanes[l].CountsOk

/-! ### One lane -/

/-- The scale factor is at most 65,536, since a demand above what the capacity leaves only lowers it (R35). -/
theorem budgetScale_le (cap held demand : Nat) : budgetScale cap held demand ≤ 65536 := by
  unfold budgetScale
  split_ifs with hd hfits hheld
  · exact le_rfl
  · exact le_rfl
  · exact Nat.zero_le _
  · rw [Nat.div_le_iff_le_mul_add_pred (Nat.pos_of_ne_zero hd)]
    have left : cap - held ≤ demand := by omega
    exact (Nat.mul_le_mul_right 65536 left).trans (Nat.le_add_right _ _)

theorem Lane.CountsOk.beginKnown {x : Lane} (h : x.CountsOk) (now : Nat) (blanked : Bool) (slots : List Entry) :
    (x.beginKnown now blanked slots).CountsOk := by
  unfold Lane.beginKnown
  cases x.latency <;> exact h

theorem Lane.CountsOk.renew {x : Lane} (h : x.CountsOk) (now : Nat) : (x.renew now).CountsOk := by
  obtain ⟨hu, hs⟩ := h
  refine ⟨hu, ?_⟩
  show (if x.latency = .direct then 65536 else x.scale) ≤ 65536
  split_ifs
  · exact le_rfl
  · exact hs

theorem Lane.CountsOk.setup {x : Lane} (h : x.CountsOk) (a : LaneSetupArgs) : (x.setup a).CountsOk := by
  unfold Lane.setup
  split_ifs <;> exact h

theorem Lane.CountsOk.afterRead {x : Lane} (h : x.CountsOk) (clear : Bool) : (x.afterRead clear).CountsOk := by
  obtain ⟨hu, hs⟩ := h
  cases clear
  · exact ⟨hu, hs⟩
  · exact ⟨Nat.zero_le _, hs⟩

theorem Lane.CountsOk.takeEntry {x : Lane} (h : x.CountsOk) (p ready : Nat) (e : Entry) :
    (x.takeEntry p ready e).CountsOk := by
  unfold Lane.takeEntry
  split
  · exact h
  · split_ifs <;> exact h

/-! ### The operations on lanes -/

namespace State.CountsOk

variable {s : State}

/-- An operation that leaves the lanes alone. -/
theorem of_changes {t : State} {ps : List Part} (h : s.CountsOk) (k : s.ChangesOnly ps t)
    (hn : ps.contains .lanes = false) : t.CountsOk := by
  have same : t.lanes = s.lanes := k .lanes (by simpa using hn)
  intro l
  rw [same]
  exact h l

theorem setLane (h : s.CountsOk) {l : LaneId} {x : Lane} (hx : x.CountsOk) : (s.setLane l x).CountsOk := by
  intro k
  rw [State.setLane_lanes, Tab.get_put]
  split
  · exact hx
  · exact h k

/-- A lane written with the counts that it has. -/
theorem setLaneOf (h : s.CountsOk) (l : LaneId) (x : Lane)
    (hx : (x.underruns, x.scale) = (s.lanes[l].underruns, s.lanes[l].scale)) : (s.setLane l x).CountsOk := by
  obtain ⟨hu, hs⟩ := Prod.mk.inj hx
  obtain ⟨hcount, hscale⟩ := h l
  exact h.setLane ⟨hu.trans_le hcount, hs.trans_le hscale⟩

theorem underrun (h : s.CountsOk) (l : LaneId) (n : Nat) (mayPost : Bool) : (s.underrun l n mayPost).CountsOk := by
  have counted (armed : Bool) :
      Lane.CountsOk { s.lanes[l] with underruns := saturate16 (s.lanes[l].underruns + n), armed := armed } :=
    ⟨Nat.min_le_left _ _, (h l).2⟩
  unfold State.underrun
  dsimp only
  split_ifs
  · exact h
  · exact (h.setLane (counted false)).of_changes (.post _ _ _) rfl
  · exact h.setLane (counted s.lanes[l].armed)

theorem beginFrame (h : s.CountsOk) (l : LaneId) (slots : List Entry) : (s.beginFrame l slots).CountsOk :=
  h.setLane ((h l).beginKnown _ _ _)

theorem beginDark (h : s.CountsOk) (l : LaneId) : (s.beginDark l).CountsOk := by
  unfold State.beginDark
  split_ifs
  · exact h
  · have begun := h.beginFrame l s.lanes[l].darkSlots
    exact begun.setLaneOf l _ rfl

theorem darkNowOrNext (h : s.CountsOk) (l : LaneId) : (s.darkNowOrNext l).CountsOk := by
  unfold State.darkNowOrNext
  split_ifs
  · exact h.setLaneOf l _ rfl
  · exact h.beginDark l

/-! ### Slots and the ends of frames -/

theorem sendSlot (h : s.CountsOk) (l : LaneId) : (s.sendSlot l).CountsOk := by
  unfold State.sendSlot
  split
  · exact h
  · next f _ =>
    have sent (e : Entry) (g : Frame) : ((s.reachNode l f).setLane l
        { s.lanes[l].recordSlot f.nextSlot e with frame := some g }).CountsOk :=
      setLane (x := { s.lanes[l].recordSlot f.nextSlot e with frame := some g })
        (h.of_changes (.reachNode s l f) rfl) (h l)
    dsimp only
    split_ifs
    · exact (sent _ _).underrun l 1 _
    · exact sent _ _
    · exact h

theorem sendSlots (l : LaneId) (n : Nat) : ∀ {s : State}, s.CountsOk → (State.sendSlots l n s).CountsOk := by
  induction n with
  | zero => exact id
  | succ n ih => exact fun h => ih (h.sendSlot l)

theorem slotDue (h : s.CountsOk) (l : LaneId) : (s.slotDue l).CountsOk := by
  unfold State.slotDue
  split
  · exact h
  · split_ifs
    · exact (h.of_changes (.clockTo s _) rfl).sendSlot l
    · exact h

theorem recordAnswer (h : s.CountsOk) (l : LaneId) (answer : BitVec 24) : (s.recordAnswer l answer).CountsOk := by
  have recorded (faults : List FaultFlags) : (s.setLane l { s.lanes[l] with faults := faults }).CountsOk :=
    h.setLaneOf l _ rfl
  unfold State.recordAnswer
  dsimp only
  split_ifs
  · exact (recorded _).of_changes (.post _ _ _) rfl
  · exact recorded _

theorem payDark (h : s.CountsOk) (l : LaneId) : (s.payDark l).CountsOk := by
  unfold State.payDark
  split_ifs
  · exact (h.setLaneOf l { s.lanes[l] with darkOwed := false } rfl).beginDark l
  · exact h

theorem stopIfDone (h : s.CountsOk) (l : LaneId) : (s.stopIfDone l).CountsOk := by
  have stopped : (s.setLane l { s.lanes[l] with state := .disabled, soloDue := none }).CountsOk := h.setLaneOf l _ rfl
  unfold State.stopIfDone
  dsimp only
  split_ifs
  · split
    · split_ifs
      · exact stopped.of_changes (.ok _ _ _) rfl
      · exact stopped
    · exact stopped
  · exact h

theorem frameOver (h : s.CountsOk) (l : LaneId) : (s.setLane l s.lanes[l].frameOver).CountsOk := h.setLaneOf l _ rfl

theorem endFrame (h : s.CountsOk) (l : LaneId) (f : Frame) (answer : BitVec 24) : (s.endFrame l f answer).CountsOk := by
  have recorded := (sendSlots l (s.lanes[l].nodeCount - f.nextSlot)
    (h.of_changes (.clockTo s (s.lanes[l].frameEnd f)) rfl)).recordAnswer l answer
  exact ((recorded.frameOver l).payDark l).stopIfDone l

theorem standbyCheck (h : s.CountsOk) : s.standbyCheck.CountsOk := h.of_changes (.standbyCheck s) rfl

theorem windowEnd (h : s.CountsOk) (l : LaneId) (answer : BitVec 24) : (s.windowEnd l answer).CountsOk := by
  unfold State.windowEnd
  split
  · exact h
  · exact (h.endFrame l _ answer).standbyCheck

/-! ### Enabling and resuming -/

theorem enableLane (h : s.CountsOk) (l : LaneId) : (s.enableLane l).CountsOk := by
  have renewed : (s.setLane l
      { s.lanes[l].renew s.clocks.now with state := s.enteredState, darkOwed := false }).CountsOk :=
    setLane (x := { s.lanes[l].renew s.clocks.now with state := s.enteredState, darkOwed := false }) h
      ((h l).renew s.clocks.now)
  exact renewed.of_changes (.firstRequest _ l) rfl

theorem resumeLane (h : s.CountsOk) (l : LaneId) : (s.resumeLane l).CountsOk := by
  have enabled := enableLane (h.of_changes (.setEngine s (s.engine.markStale l)) rfl) l
  unfold State.resumeLane State.darkOnResume
  split_ifs
  · exact enabled.darkNowOrNext l
  · exact enabled

theorem resumeWhere (h : s.CountsOk) (first : List LaneId) (which : LaneState → Bool) :
    (s.resumeWhere first which).CountsOk := by
  refine List.foldlRecOn _ _ h fun t ht l _ => ?_
  split_ifs
  · exact ht.resumeLane l
  · exact ht

/-! ### Refresh ticks -/

theorem sendBack (h : s.CountsOk) (l : LaneId) : (s.sendBack l).CountsOk := by
  have running : (s.setLane l { s.lanes[l] with backReady := false, state := .running }).CountsOk := h.setLaneOf l _ rfl
  unfold State.sendBack
  dsimp only
  split_ifs
  · exact running
  · exact running.beginFrame l _

theorem tickBuffered (h : s.CountsOk) (l : LaneId) : (s.tickBuffered l).CountsOk := by
  unfold State.tickBuffered
  split_ifs
  · exact (h.sendBack l).of_changes (.request _ l) rfl
  · exact (h.beginFrame l _).underrun l 1 true
  · exact h

theorem tickDirect (h : s.CountsOk) (l : LaneId) : (s.tickDirect l).CountsOk := by
  unfold State.tickDirect
  dsimp only
  split_ifs
  · exact (h.beginFrame l _).underrun l _ true
  · exact h.beginFrame l _
  · exact (h.setLaneOf l
      { s.lanes[l].beginFed s.clocks.now (s.blanks l) with state := .running } rfl).of_changes (.request _ l) rfl

theorem tickLane (h : s.CountsOk) (l : LaneId) : (s.tickLane l).CountsOk := by
  have paused : (s.setLane l s.lanes[l].pause).CountsOk := h.setLaneOf l _ rfl
  unfold State.tickLane
  dsimp only
  split
  · split
    · split_ifs
      · exact paused
      · exact h.tickBuffered l
      · exact h.tickDirect l
    · split_ifs
      · exact paused
      · exact h
    · exact h
    · exact h
  · exact h

theorem tickGroup (h : s.CountsOk) : s.tickGroup.CountsOk := by
  refine List.foldlRecOn _ _ h fun t ht l _ => ?_
  split_ifs
  · exact ht
  · exact ht.tickLane l

theorem tickSolo (h : s.CountsOk) (l : LaneId) : (s.tickSolo l).CountsOk := by
  unfold State.tickSolo
  split
  · exact h
  · next due _ =>
    have next : ((s.clockTo due).setLane l
        { s.lanes[l] with soloDue := some (due + s.lanes[l].soloPeriod) }).CountsOk :=
      setLaneOf (h.of_changes (.clockTo s due) rfl) l _ rfl
    exact (next.tickLane l).standbyCheck

/-! ### Jobs -/

theorem takeResult (h : s.CountsOk) (j : Job) : (s.takeResult j).CountsOk := by
  have scaled : j.scale s.cal.working ≤ 65536 := budgetScale_le _ _ _
  have hu := (h j.lane).1
  unfold State.takeResult
  dsimp only
  split
  · split
    · exact h.setLane ⟨hu, scaled⟩
    · split_ifs
      · exact h
      · exact h.setLane ⟨hu, scaled⟩
  · exact h

theorem completeJob (h : s.CountsOk) (j : Job) : (s.completeJob j).CountsOk := by
  have taken := takeResult (h.of_changes (.clockTo s j.readyAt) rfl) j
  have dropped := taken.of_changes (.setEngine _ { ((s.clockTo j.readyAt).takeResult j).engine with job := none }) rfl
  have applied := dropped.of_changes (.applyHeld _) rfl
  exact (applied.of_changes (.startJob _) rfl).standbyCheck

theorem jobEnd (h : s.CountsOk) : s.jobEnd.CountsOk := by
  unfold State.jobEnd
  split
  · exact h
  · exact h.completeJob _

theorem composeNode (h : s.CountsOk) (j : Job) : (s.composeNode j).CountsOk := by
  have composed (e : Engine) : (((s.clockTo (j.readyAt + j.nodeCost j.duties.length)).reportAll
      (s.nextNode j).2).setEngine e).CountsOk :=
    ((h.of_changes (.clockTo s _) rfl).of_changes (.reportAll _ _) rfl).of_changes (.setEngine _ e) rfl
  unfold State.composeNode
  dsimp only
  split
  · exact composed _
  · split_ifs
    · exact composed _
    · exact (composed _).setLane ((composed _ j.lane).takeEntry _ _ _)

/-! ### The sense monitor and the power states -/

theorem sampleSupply (h : s.CountsOk) (code : BitVec 12) (ch : Choices) : (s.sampleSupply code ch).CountsOk := by
  have sampled (x : SenseMonitor) : ((s.setCode 5 code).setSense x).CountsOk :=
    of_changes (h.of_changes (.setSense s _) rfl) (.setSense _ x) rfl
  unfold State.sampleSupply
  dsimp only
  split_ifs
  · exact sampled _
  · exact ((sampled _).of_changes (.post _ _ _) rfl).resumeWhere _ _
  · exact (sampled _).of_changes (.post _ _ _) rfl

theorem sampleChannel (h : s.CountsOk) (c : ChannelId) (code : BitVec 12) (ch : Choices) :
    (s.sampleChannel c code ch).CountsOk := by
  unfold State.sampleChannel
  split_ifs
  · exact h.of_changes (.sampleThermal s _ code) rfl
  · exact h.of_changes (.sampleAmbient s code ch) rfl
  · exact h.sampleSupply code ch

theorem sleepLane (h : s.CountsOk) (dark : Bool) (l : LaneId) : (s.sleepLane dark l).CountsOk := by
  have asleep : (s.setLane l s.lanes[l].toSleep).CountsOk := h.setLaneOf l _ rfl
  unfold State.sleepLane
  dsimp only
  split_ifs
  · exact asleep.darkNowOrNext l
  · exact asleep

theorem goToSleep (h : s.CountsOk) (m : LinkMsg) (dark : Bool) : (s.goToSleep m dark).CountsOk := by
  have sleeping : ((s.setPower { s.power with state := .sleeping }).hold (.sleep m dark)).CountsOk :=
    of_changes (h.of_changes (.setPower s _) rfl) (.hold _ _) rfl
  exact standbyCheck (List.foldlRecOn _ _ sleeping fun t ht l _ => ht.sleepLane dark l)

theorem wakeUp (h : s.CountsOk) (ch : Choices) : (s.wakeUp ch).CountsOk := by
  unfold State.wakeUp State.resumeAll
  split_ifs
  · exact (h.resumeWhere _ _).of_changes (.deliver _) rfl
  · exact (h.of_changes (.deliver s) rfl).resumeWhere _ _

theorem enterActive (h : s.CountsOk) (ch : Choices) : (s.enterActive ch).CountsOk := by
  have active := h.of_changes (.setPower s { s.power with state := .active }) rfl
  have woken := (active.of_changes (.post _ .wake (wakeCauseFields s.power.cause ++ u8 s.power.events.length)) rfl).wakeUp ch
  exact (woken.of_changes (.setPower _ { State.power _ with cause := none }) rfl).of_changes (.answerWake _) rfl

/-! ### The parts of a device tick -/

theorem takePart (h : s.CountsOk) {part : TickPart} {f : State → State} (hf : ∀ t : State, t.CountsOk → (f t).CountsOk) :
    (s.takePart part f).CountsOk := by
  unfold State.takePart
  split_ifs
  · exact h
  · exact hf _ (h.of_changes (.setClocks s _) rfl)

theorem ahead (h : s.CountsOk) {part : TickPart} {due : Bool} {f : State → State}
    (hf : ∀ t : State, t.CountsOk → (f t).CountsOk) : (s.ahead part due f).CountsOk := by
  unfold State.ahead
  split_ifs
  · exact takePart (h.of_changes (.clockTo s _) rfl) hf
  · exact h

theorem partChannel (h : s.CountsOk) (c : ChannelId) (codes : Tab (BitVec 12) 6) (ch : Choices) :
    (s.partChannel c codes ch).CountsOk := by
  unfold State.partChannel
  split_ifs
  · exact h.sampleChannel c _ ch
  · exact h

theorem partSense (h : s.CountsOk) (codes : Tab (BitVec 12) 6) (ch : Choices) : (s.partSense codes ch).CountsOk := by
  have sampled : (s.sampleRest codes ch).CountsOk :=
    List.foldlRecOn _ _ h fun t ht c _ => ht.takePart fun u hu => hu.partChannel c codes ch
  unfold State.partSense
  dsimp only
  split_ifs
  · exact sampled.of_changes (.setSense _ _) rfl
  · exact h.of_changes (.setSense s _) rfl
  · exact h

theorem partWaking (h : s.CountsOk) (ch : Choices) : (s.partWaking ch).CountsOk := by
  have counted := h.of_changes (.setPower s { s.power with count := s.power.count + 1 }) rfl
  unfold State.partWaking
  dsimp only
  split_ifs
  · exact counted.enterActive ch
  · exact counted
  · exact h

theorem sampleFirst (h : s.CountsOk) (codes : Tab (BitVec 12) 6) (ch : Choices) : (s.sampleFirst codes ch).CountsOk := by
  unfold State.sampleFirst
  split_ifs
  · exact h.takePart fun t ht => ht.partSense codes ch
  · exact h

theorem runPart (h : s.CountsOk) (inp : TickInput) (part : TickPart) (ch : Choices) :
    (s.runPart inp part ch).CountsOk := by
  unfold State.runPart
  cases part with
  | fade l => exact h.takePart fun t ht => ht.of_changes (.tickFade t l) rfl
  | player p => exact h.takePart fun t ht => ht.of_changes (.tickPlayer t p ch) rfl
  | line i => exact h.takePart fun t ht => ht.of_changes (.sampleLine t i _) rfl
  | wheel => exact h.takePart fun t ht => ht.of_changes (.sampleWheel t _) rfl
  | channel c =>
    dsimp only
    split_ifs
    · exact h.takePart fun t ht => ht.partChannel c _ ch
    · exact h
  | sense => exact h.takePart fun t ht => ht.partSense _ ch
  | waking => exact (h.sampleFirst _ _).takePart fun t ht => ht.partWaking ch

theorem runOrder (h : s.CountsOk) (inp : TickInput) (order : List (TickPart × Choices)) :
    (s.runOrder inp order).CountsOk := List.foldlRecOn _ _ h fun _ ht _ _ => ht.runPart inp _ _

theorem runRest (h : s.CountsOk) (inp : TickInput) : (s.runRest inp).CountsOk :=
  List.foldlRecOn _ _ h fun _ ht _ _ => ht.runPart inp _ _

end State.CountsOk

end Sys2Proof.Machine
end

section
/-! The laws of the compose engine and of each lane's counts, kept by every step. -/

namespace Sys2Proof.Machine

/-! ### The commands of the link that write a lane -/

theorem cmdLaneSetup_keeps_countsOk (m : LinkMsg) {s : State} (h : s.CountsOk) : (cmdLaneSetup m s).CountsOk := by
  rcases cmdLaneSetup_cases m s with ⟨_, e⟩ | ⟨a, -, -, e⟩ <;> rw [e]
  · exact h.of_changes (.refuse s m _) rfl
  · exact State.CountsOk.of_changes (h.setLane ((h a.lane).setup a)) (.ok _ m _) rfl

theorem cmdLaneEnable_keeps_countsOk (m : LinkMsg) {s : State} (h : s.CountsOk) : (cmdLaneEnable m s).CountsOk := by
  unfold cmdLaneEnable
  split
  · exact h.of_changes (.refuse s m _) rfl
  · split_ifs
    · exact h.of_changes (.refuse s m _) rfl
    · exact (h.enableLane _).of_changes (.ok _ m _) rfl

theorem cmdLaneDisable_keeps_countsOk (m : LinkMsg) {s : State} (h : s.CountsOk) : (cmdLaneDisable m s).CountsOk := by
  unfold cmdLaneDisable
  split
  · exact h.of_changes (.refuse s m _) rfl
  · next l dark _ =>
    have closed : (s.setLane l { s.lanes[l].closeFeed with state := .stopping }).CountsOk := h.setLaneOf l _ rfl
    have stopping : (s.stopLane l dark).CountsOk := by
      unfold State.stopLane
      dsimp only
      split_ifs
      · exact closed.darkNowOrNext l
      · exact closed
    split_ifs
    · exact h.of_changes (.ok s m _) rfl
    · exact (stopping.of_changes (.hold _ _) rfl).stopIfDone l

theorem cmdLaneRead_keeps_countsOk (m : LinkMsg) {s : State} (h : s.CountsOk) : (cmdLaneRead m s).CountsOk := by
  unfold cmdLaneRead
  split
  · exact h.of_changes (.refuse s m _) rfl
  · next l clear _ => exact State.CountsOk.of_changes (h.setLane ((h l).afterRead clear)) (.ok _ m _) rfl

theorem cmdNodeHold_keeps_countsOk (m : LinkMsg) {s : State} (h : s.CountsOk) : (cmdNodeHold m s).CountsOk := by
  unfold cmdNodeHold
  split
  · exact h.of_changes (.refuse s m _) rfl
  · next l ranges _ =>
    split_ifs
    · exact (h.setLaneOf l { s.lanes[l] with holdSet := ranges } rfl).of_changes (.ok _ m _) rfl
    · exact h.of_changes (.refuse s m _) rfl

theorem cmdNodeFaultsRead_keeps_countsOk (m : LinkMsg) {s : State} (h : s.CountsOk) :
    (cmdNodeFaultsRead m s).CountsOk := by
  unfold cmdNodeFaultsRead
  split
  · exact h.of_changes (.refuse s m _) rfl
  · next l _ => exact (h.setLaneOf l s.lanes[l].clearFaults rfl).of_changes (.ok _ m _) rfl

theorem cmdBudgetSet_keeps_countsOk (m : LinkMsg) {s : State} (h : s.CountsOk) : (cmdBudgetSet m s).CountsOk := by
  unfold cmdBudgetSet
  split
  · exact h.of_changes (.refuse s m _) rfl
  · next l budget derate _ =>
    exact (h.setLaneOf l { s.lanes[l] with budget := budget, derate := derate } rfl).of_changes (.ok _ m _) rfl

theorem cmdSleep_keeps_countsOk (m : LinkMsg) {s : State} (h : s.CountsOk) : (cmdSleep m s).CountsOk := by
  unfold cmdSleep
  split
  · exact h.of_changes (.refuse s m _) rfl
  · exact h.goToSleep m _

/-! ### Every command -/

theorem State.afterReset_countsOk (cause : Byte) (now : Nat) (pattern : PatternMemory) (cal : CalStore)
    (q : List Instr) : (State.afterReset cause now pattern cal q).CountsOk := by
  intro l
  have lane : (State.afterReset cause now pattern cal q).lanes[l] = Lane.reset := Vector.getElem_replicate ..
  rw [lane]
  decide

/-- What a command answers, where its meaning gives the answer. -/
theorem State.CountsOk.of_next {u t : State} (ht : (.next u : Host.Outcome State Fault Refusal) = .next t)
    (hu : u.CountsOk) : t.CountsOk := Host.Outcome.next.inj ht ▸ hu

theorem exec_restartReset_keeps_countsOk {s t : State} (h : s.CountsOk) (ht : exec .restartReset s = .next t) :
    t.CountsOk := by
  refine .of_next ht ?_
  split_ifs
  · exact State.afterReset_countsOk _ _ _ _ _
  · exact h

theorem exec_laneDisableComplete_keeps_countsOk {s t : State} (h : s.CountsOk) {l : LaneId} {answer : BitVec 24}
    (ht : exec (.laneDisableComplete l answer) s = .next t) : t.CountsOk := by
  refine .of_next ht ?_
  split
  · split
    · exact h.stopIfDone l
    · split_ifs
      · exact h
      · exact h.endFrame l _ answer
  · exact h

theorem exec_deviceTick_keeps_countsOk {s t : State} (h : s.CountsOk) {inp : TickInput}
    (ht : exec (.deviceTick inp) s = .next t) : t.CountsOk := by
  have ran := ((h.of_changes (.clockTo s s.clocks.deviceDue) rfl).runOrder inp inp.order).runRest inp
  exact .of_next ht (ran.of_changes (.setClocks _ _) rfl).standbyCheck

theorem exec_nodeCompose_keeps_countsOk {s t : State} (h : s.CountsOk) (ht : exec .nodeCompose s = .next t) :
    t.CountsOk := by
  refine .of_next ht ?_
  split
  · exact h
  · split_ifs
    · exact h.composeNode _
    · exact h

/-- Every command that touches a lane keeps its counts in range; the others leave the lanes alone. -/
theorem exec_keeps_countsOk (c : Instr) (s t : State) (h : s.CountsOk) (ht : exec c s = .next t) : t.CountsOk := by
  have dispatched {kind len waking} {body : LinkMsg → State → State}
      (hbody : ∀ (m : LinkMsg) {u : State}, u.CountsOk → (body m u).CountsOk) :
      (s.dispatch kind len waking body).CountsOk :=
    State.dispatch_keeps (fun u k hu => hu.of_changes (.setLink u k) rfl) (fun m u => hbody m) h
  have held (b : Bool) : State.CountsOk (if b then s.jobEnd else s) := by
    cases b
    · exact h
    · exact h.jobEnd
  cases c
  case powerOnReset => exact .of_next ht (State.afterReset_countsOk _ _ _ _ _)
  case restartReset => exact exec_restartReset_keeps_countsOk h ht
  case sleep => exact .of_next ht (dispatched cmdSleep_keeps_countsOk)
  case wakingComplete ch => exact .of_next ht (h.ahead fun u hu => hu.partWaking ch)
  case laneSetup => exact .of_next ht (dispatched cmdLaneSetup_keeps_countsOk)
  case laneEnable => exact .of_next ht (dispatched cmdLaneEnable_keeps_countsOk)
  case laneDisable => exact .of_next ht (dispatched cmdLaneDisable_keeps_countsOk)
  case laneDisableComplete => exact exec_laneDisableComplete_keeps_countsOk h ht
  case laneRead => exact .of_next ht (dispatched cmdLaneRead_keeps_countsOk)
  case nodeHold => exact .of_next ht (dispatched cmdNodeHold_keeps_countsOk)
  case nodeFaultsRead => exact .of_next ht (dispatched cmdNodeFaultsRead_keeps_countsOk)
  case budgetSet => exact .of_next ht (dispatched cmdBudgetSet_keeps_countsOk)
  case keysWriteHeldApply => exact .of_next ht (held _)
  case workingSetHeldApply => exact .of_next ht (held _)
  case composeJobComplete => exact .of_next ht h.jobEnd
  case nodeCompose => exact exec_nodeCompose_keeps_countsOk h ht
  case deviceTick => exact exec_deviceTick_keeps_countsOk h ht
  case senseTick codes ch => exact .of_next ht (h.ahead fun u hu => hu.partSense codes ch)
  case supplyStateChange code ch => exact .of_next ht (h.ahead fun u hu => hu.sampleSupply code ch)
  case groupTick => exact .of_next ht (h.of_changes (.groupClock s) rfl).tickGroup.standbyCheck
  case soloTick l => exact .of_next ht (h.tickSolo l)
  case directSlotDue l => exact .of_next ht (h.slotDue l)
  case returnWindowEnd l answer => exact .of_next ht (h.windowEnd l answer)
  all_goals exact h.of_changes (exec_changes _ ht) rfl 

/-- No command breaks the laws of the compose engine (R135). -/
theorem exec_keeps_engineLaw (c : Instr) (s t : State) (h : s.engine.Lawful) (ht : exec c s = .next t) :
    t.engine.Lawful := by
  obtain ⟨-, untouched, -⟩ := laws_untouched c
  exact exec_changes c ht .engineLaw untouched h

/-- Settles O56: every command keeps the laws of R135 and the ranges of R33 and R144, and so does every step. -/
theorem everyStepKeepsOneJobPerLane : Obligations.EveryStepKeepsOneJobPerLane :=
  ⟨fun _ _ => step_keeps (P := fun s => s.engine.Lawful) (fun _ _ h => h) exec_keeps_engineLaw,
    fun _ _ => step_keeps (P := State.CountsOk) (fun _ _ h => h) exec_keeps_countsOk⟩

end Sys2Proof.Machine
end

section
/-! SUPPORT. The frames of a DIRECT lane: how a tick begins one, and what its next slot carries (R142 to R144). -/

namespace Sys2Proof.Machine

/-! ### The tick of a DIRECT lane -/

/-- A tick of a DIRECT lane in ACTIVE, with no sag. -/
theorem State.tickLane_direct {s : State} {l : LaneId}
    (hl : s.lanes[l].state = .starting ∨ s.lanes[l].state = .running) (hp : s.power.state = .active)
    (hs : s.sense.supply.state ≠ .sag) (hd : s.lanes[l].latency = .direct) : s.tickLane l = s.tickDirect l := by
  have notBuffered : ¬s.lanes[l].latency = .buffered := by
    rw [hd]
    decide
  unfold State.tickLane
  simp only [if_pos hl, hp, State.sagging_iff, if_neg hs, if_neg notBuffered]

/-- The lane after an all-HOLD frame has begun on it in DIRECT. -/
def Lane.allHold (x : Lane) (now : Nat) (blanked : Bool) : Lane :=
  { x with
    sentSinceEnable := true
    frame := some ⟨now, blanked, false, false, false, 0, List.replicate x.nodeCount (some .hold)⟩ }

/-- Every slot of an all-HOLD frame of a DIRECT lane is known when the frame begins, and none is recorded yet (log 21). -/
theorem Lane.beginKnown_holdSlots {x : Lane} (h : x.latency = .direct) (now : Nat) (blanked : Bool) :
    x.beginKnown now blanked x.holdSlots = x.allHold now blanked := by
  unfold Lane.beginKnown
  simp only [h, holdSlots_blanked, List.map_replicate]
  rw [← h]
  rfl

theorem State.beginFrame_holdSlots {s : State} {l : LaneId} (h : s.lanes[l].latency = .direct) :
    s.beginFrame l s.lanes[l].holdSlots = s.setLane l (s.lanes[l].allHold s.clocks.now (s.blanks l)) := by
  unfold State.beginFrame
  rw [Lane.beginKnown_holdSlots h]

/-- Some underruns of a lane just written: their count, and the notice of the first when it may be posted and the lane is armed
(R144, log 33). -/
theorem State.setLane_underruns (s : State) (l : LaneId) (x : Lane) {n : Nat} (hn : 0 < n) (mayPost : Bool) :
    (s.setLane l x).underrun l n mayPost =
      { s with
        lanes := s.lanes.put l { x with underruns := min 65535 (x.underruns + n), armed := x.armed && !mayPost }
        link := if x.armed && mayPost then s.link.post .underrun (underrunFields l x (min 65535 (x.underruns + 1)))
          else s.link } := by
  unfold State.underrun
  simp only [State.setLane_self, State.setLane_setLane]
  rw [if_neg (Nat.pos_iff_ne_zero.1 hn)]
  split_ifs with h
  · obtain ⟨ha, hm⟩ := Bool.and_eq_true_iff.1 h
    rw [ha, hm]
    rfl
  · have kept : (x.armed && !mayPost) = x.armed := by
      cases ha : x.armed
      · rfl
      · rw [show mayPost = false by simpa [ha] using h]
        rfl
    rw [kept]
    rfl

/-- The UNDERRUN fields, as the statements write them. -/
theorem underrunFields_eq (l : LaneId) (x : Lane) (count : Nat) :
    underrunFields l x count =
      [BitVec.ofNat 8 l.val, BitVec.ofNat 8 x.latency.code, if x.latency = .buffered then 0 else 1,
        BitVec.ofNat 8 (count / 256), BitVec.ofNat 8 count] := by
  unfold underrunFields
  split_ifs <;> rfl

/-- The UNDERRUN fields of a DIRECT lane. -/
theorem underrunFields_direct {l : LaneId} {x : Lane} (h : x.latency = .direct) (count : Nat) :
    underrunFields l x count = [BitVec.ofNat 8 l.val, 1, 1, BitVec.ofNat 8 (count / 256), BitVec.ofNat 8 count] := by
  rw [underrunFields_eq, h]
  rfl

/-- With no job outstanding a DIRECT lane begins a frame that a job feeds, and asks for that job (R142). -/
theorem State.tickDirect_fed {s : State} {l : LaneId} (h : s.engine.outstanding l = false) :
    s.tickDirect l =
      (s.setLane l { s.lanes[l].beginFed s.clocks.now (s.blanks l) with state := .running }).request l := by
  unfold State.tickDirect
  exact if_neg (Bool.eq_false_iff.1 h)

/-- With its last job outstanding a DIRECT lane sends an all-HOLD frame, which counts nothing while it is STARTING or holds every
position (R143). -/
theorem State.tickDirect_uncounted {s : State} {l : LaneId} (hd : s.lanes[l].latency = .direct)
    (ho : s.engine.outstanding l = true) (h : s.lanes[l].state = .starting ∨ s.lanes[l].unheldCount = 0) :
    s.tickDirect l = s.setLane l (s.lanes[l].allHold s.clocks.now (s.blanks l)) := by
  unfold State.tickDirect
  simp only [if_pos ho, State.beginFrame_holdSlots hd]
  rcases h with h | h
  · exact if_neg (by rw [h]; decide)
  · rw [h]
    exact ite_self _

/-- The all-HOLD frame of a RUNNING lane counts each position outside the hold set (R143, log 32). -/
theorem State.tickDirect_counted {s : State} {l : LaneId} (hd : s.lanes[l].latency = .direct)
    (ho : s.engine.outstanding l = true) (hr : s.lanes[l].state = .running) (hu : 0 < s.lanes[l].unheldCount) :
    let first := min 65535 (s.lanes[l].underruns + 1)
    s.tickDirect l =
      { s with
        lanes := s.lanes.put l
          { s.lanes[l].allHold s.clocks.now (s.blanks l) with
            underruns := min 65535 (s.lanes[l].underruns + s.lanes[l].unheldCount)
            armed := false }
        link := if s.lanes[l].armed then
            s.link.post .underrun [BitVec.ofNat 8 l.val, 1, 1, BitVec.ofNat 8 (first / 256), BitVec.ofNat 8 first]
          else s.link } := by
  intro first
  unfold State.tickDirect
  simp only [if_pos ho, if_pos hr, State.beginFrame_holdSlots hd]
  rw [State.setLane_underruns _ _ _ hu, underrunFields_direct (x := s.lanes[l].allHold _ _) hd, Bool.not_true,
    Bool.and_false, Bool.and_true]
  rfl

/-! ### What the next slot of a frame carries (R142, log 39) -/

theorem Job.meets_iff {j : Job} {l : LaneId} {p due : Nat} : j.meets l p due = true ↔
    j.lane = l ∧ j.stale = false ∧ j.duties.length = p ∧ p < j.nodeCount ∧ j.readyAt + j.nodeCost p ≤ due :=
  decide_eq_true_iff

/-- Slots that no job feeds. -/
theorem State.jobMet_eq_none {s : State} {l : LaneId} {f : Frame}
    (h : f.fed = false ∨ f.closed = true ∨ f.slots.getD f.nextSlot none ≠ none ∨
      ∀ j, s.engine.job = some j → ¬j.meets l f.nextSlot (s.lanes[l].slotStart f f.nextSlot) = true) :
    s.jobMet l f = none := by
  refine Option.eq_none_iff_forall_ne_some.2 fun j hj => ?_
  obtain ⟨hjob, ⟨hfed, hopen, hslot⟩, hmeets⟩ := State.jobMet_eq_some.1 hj
  rcases h with h | h | h | h
  · exact Bool.false_ne_true (h.symm.trans hfed)
  · exact Bool.false_ne_true (hopen.symm.trans h)
  · exact h hslot
  · exact h j hjob hmeets

/-- Once the lane takes no further entry of its job, a slot is HOLD and counts nothing. -/
theorem State.nextEntry_closed {s : State} {l : LaneId} {f : Frame} (hf : f.fed = true) (hc : f.closed = true) :
    s.nextEntry l f = (.hold, false) := by
  unfold State.nextEntry
  rw [hf, hc]
  rfl

/-- An entry that the lane has is carried, blanked in a blanked frame. -/
theorem State.nextEntry_known {s : State} {l : LaneId} {f : Frame} {e : Entry} (h : f.fed = false ∨ f.closed = false)
    (he : s.entryFor l f = some e) : s.nextEntry l f = (blankEntry f.blanked e, false) := by
  have taking : ¬(f.fed && f.closed) = true := by rcases h with h | h <;> simp [h]
  unfold State.nextEntry
  rw [if_neg taking, he]

/-- A slot with no entry is HOLD, and it is late unless its frame is closed or its position is marked held. -/
theorem State.nextEntry_missing {s : State} {l : LaneId} {f : Frame} (he : s.entryFor l f = none) :
    s.nextEntry l f = (.hold, !f.closed && !s.marksHeld l f.nextSlot) := by
  unfold State.nextEntry
  rw [he]
  split_ifs with h
  · rw [(Bool.and_eq_true_iff.1 h).2]
    rfl
  · rfl

theorem State.entryFor_slot {s : State} {l : LaneId} {f : Frame} {e : Entry}
    (h : f.slots.getD f.nextSlot none = some e) : s.entryFor l f = some e := by
  unfold State.entryFor
  rw [h]
  rfl

theorem State.entryFor_none {s : State} {l : LaneId} {f : Frame} (h : f.slots.getD f.nextSlot none = none)
    (hm : s.jobMet l f = none) : s.entryFor l f = none := by
  unfold State.entryFor
  rw [h, hm]
  rfl

theorem State.entryFor_met {s : State} {l : LaneId} {f : Frame} {j : Job} (h : f.slots.getD f.nextSlot none = none)
    (hm : s.jobMet l f = some j) : s.entryFor l f = some (j.entry j.scaleHeld f.nextSlot (s.nextNode j).1) := by
  unfold State.entryFor
  rw [h, hm]
  rfl

/-! ### DIRECT_SLOT_DUE -/

/-- The lane after the next slot of a frame has been sent and recorded. -/
def Lane.slotSent (x : Lane) (f : Frame) (e : Entry) (late : Bool) : Lane :=
  { x.recordSlot f.nextSlot e with
    frame := some { f with nextSlot := f.nextSlot + 1, lateSeen := f.lateSeen || late } }

/-- A slot in time: it is recorded, and the job that it met has reached its node. -/
theorem State.sendSlot_prompt {s : State} {l : LaneId} {f : Frame} {e : Entry} (hf : s.lanes[l].frame = some f)
    (hn : f.nextSlot < s.lanes[l].nodeCount) (he : s.nextEntry l f = (e, false)) :
    s.sendSlot l = (s.reachNode l f).setLane l (s.lanes[l].slotSent f e false) := by
  unfold State.sendSlot
  simp only [hf, if_pos hn, he]
  rfl

/-- A late slot is recorded and counts one underrun, which posts where it is the frame's first (R144). -/
theorem State.sendSlot_late {s : State} {l : LaneId} {f : Frame} {e : Entry} (hf : s.lanes[l].frame = some f)
    (hn : f.nextSlot < s.lanes[l].nodeCount) (he : s.nextEntry l f = (e, true)) :
    s.sendSlot l = ((s.reachNode l f).setLane l (s.lanes[l].slotSent f e true)).underrun l 1 (!f.lateSeen) := by
  unfold State.sendSlot
  simp only [hf, if_pos hn, he]
  rfl

/-- The state at the due time of the next slot of a lane's frame. -/
def State.atSlot (s : State) (l : LaneId) (f : Frame) : State := s.clockTo (s.lanes[l].slotStart f f.nextSlot)

theorem exec_directSlotDue {s : State} {l : LaneId} {f : Frame} (hf : s.lanes[l].frame = some f)
    (hn : f.nextSlot < s.lanes[l].nodeCount) : exec (.directSlotDue l) s = .next ((s.atSlot l f).sendSlot l) := by
  show Host.Outcome.next (s.slotDue l) = _
  unfold State.slotDue
  simp only [hf, if_pos hn]
  rfl

/-- A slot in time that no job meets. -/
theorem exec_directSlotDue_prompt {s : State} {l : LaneId} {f : Frame} {e : Entry} (hf : s.lanes[l].frame = some f)
    (hn : f.nextSlot < s.lanes[l].nodeCount) (hm : s.jobMet l f = none) (he : s.nextEntry l f = (e, false)) :
    exec (.directSlotDue l) s = .next ((s.atSlot l f).setLane l (s.lanes[l].slotSent f e false)) := by
  rw [exec_directSlotDue hf hn, State.sendSlot_prompt (s := s.atSlot l f) hf hn he,
    State.reachNode_none (s := s.atSlot l f) hm]
  rfl

/-- A slot that carries the entry of a job's next node: the job has then reached that node. -/
theorem exec_directSlotDue_met {s : State} {l : LaneId} {f : Frame} {j : Job} (hf : s.lanes[l].frame = some f)
    (hn : f.nextSlot < s.lanes[l].nodeCount) (hm : s.jobMet l f = some j) :
    exec (.directSlotDue l) s = .next
      (((s.atSlot l f).setEngine { s.engine with job := some { j with reached := some (s.nextNode j) } }).setLane l
        (s.lanes[l].slotSent f (blankEntry f.blanked (j.entry j.scaleHeld f.nextSlot (s.nextNode j).1)) false)) := by
  obtain ⟨-, ⟨-, hopen, hslot⟩, -⟩ := State.jobMet_eq_some.1 hm
  have he := State.nextEntry_known (.inr hopen) (State.entryFor_met hslot hm)
  rw [exec_directSlotDue hf hn, State.sendSlot_prompt (s := s.atSlot l f) hf hn he,
    State.reachNode_some (s := s.atSlot l f) hm]
  rfl

/-- A late slot. -/
theorem exec_directSlotDue_late {s : State} {l : LaneId} {f : Frame} (hf : s.lanes[l].frame = some f)
    (hn : f.nextSlot < s.lanes[l].nodeCount) (hm : s.jobMet l f = none) (he : s.nextEntry l f = (.hold, true)) :
    exec (.directSlotDue l) s = .next
      (((s.atSlot l f).setLane l (s.lanes[l].slotSent f .hold true)).underrun l 1 (!f.lateSeen)) := by
  rw [exec_directSlotDue hf hn, State.sendSlot_late (s := s.atSlot l f) hf hn he,
    State.reachNode_none (s := s.atSlot l f) hm]
  rfl

end Sys2Proof.Machine
end

section
/-! A tick of a DIRECT lane and DIRECT_SLOT_DUE as the statement writes them. -/

namespace Sys2Proof.Machine

/-- Settles O46: each clause of the tick is the lemma for its case, and each clause of DIRECT_SLOT_DUE is one case of what the
slot carries. -/
theorem directLanesSendSlotsAsTheyCome : Obligations.DirectLanesSendSlotsAsTheyCome := by
  unfold Obligations.DirectLanesSendSlotsAsTheyCome
  refine ⟨?tick, ?slot⟩
  case tick =>
    intro s l x unheld holds hp hd hl hs
    rw [State.tickLane_direct hl hp hs hd]
    exact ⟨State.tickDirect_fed, fun ho => ⟨State.tickDirect_uncounted hd ho, State.tickDirect_counted hd ho⟩⟩
  case slot =>
    intro s l f hf hn x p sent due clocks coming
    have unmet (h : ∀ j, s.engine.job = some j → ¬coming j) (j : Job) (hj : s.engine.job = some j) :
        ¬j.meets l p due = true := fun hm => h j hj (Job.meets_iff.1 hm)
    refine ⟨fun hfed hclosed => ?closed, fun e hopen he => ?known, fun he hquiet => ?held, ?met, ?late⟩
    case closed =>
      exact exec_directSlotDue_prompt hf hn (State.jobMet_eq_none (.inr (.inl hclosed)))
        (State.nextEntry_closed hfed hclosed)
    case known =>
      have known : f.slots.getD f.nextSlot none ≠ none := fun h => nomatch he.symm.trans h
      exact exec_directSlotDue_prompt hf hn (State.jobMet_eq_none (.inr (.inr (.inl known))))
        (State.nextEntry_known hopen (State.entryFor_slot he))
    case held =>
      have hm : s.jobMet l f = none := by
        rcases hquiet with hclosed | ⟨-, hfed | hnone⟩
        · exact State.jobMet_eq_none (.inr (.inl hclosed))
        · exact State.jobMet_eq_none (.inl hfed)
        · exact State.jobMet_eq_none (.inr (.inr (.inr (unmet hnone))))
      have quiet : (!f.closed && !s.marksHeld l f.nextSlot) = false := by
        rcases hquiet with hclosed | ⟨hmarked, -⟩
        · rw [hclosed]
          rfl
        · rw [show s.marksHeld l f.nextSlot = true from hmarked]
          exact Bool.and_false _
      exact exec_directSlotDue_prompt hf hn hm ((State.nextEntry_missing (State.entryFor_none he hm)).trans (by rw [quiet]))
    case met =>
      intro j hfed hopen he hj hcoming
      have hm : s.jobMet l f = some j := State.jobMet_eq_some.2 ⟨hj, ⟨hfed, hopen, he⟩, Job.meets_iff.2 hcoming⟩
      obtain ⟨hlane, -, hlength, -⟩ := hcoming
      have reached : s.nextNode j = j.reached.getD (j.node s.pattern s.cal.working (x.faults.getD p 0) p) := by
        subst hlane
        unfold State.nextNode
        rw [hlength]
      intro r v e
      rw [exec_directSlotDue_met hf hn hm, reached]
      rfl
    case late =>
      intro he hopen hmarked hnone count
      have hm : s.jobMet l f = none := by
        rcases hnone with hfed | hnone
        · exact State.jobMet_eq_none (.inl hfed)
        · exact State.jobMet_eq_none (.inr (.inr (.inr (unmet hnone))))
      have late : (!f.closed && !s.marksHeld l f.nextSlot) = true := by
        rw [hopen, show s.marksHeld l f.nextSlot = false from hmarked]
        rfl
      rw [exec_directSlotDue_late hf hn hm ((State.nextEntry_missing (State.entryFor_none he hm)).trans (by rw [late])),
        State.setLane_underruns _ _ _ Nat.one_pos, Bool.not_not, underrunFields_eq]
      rfl

end Sys2Proof.Machine
end

section
/-! SUPPORT. Stages S1 to S6 of the colour pipeline, as equations of the model's functions (R15 to R32). -/

namespace Sys2Proof.Machine

/-! ### S1: gradients, sweeps and moments (R19 to R24) -/

/-- The centre-out rank, without a sign. -/
theorem sweepRank_centreOut (n k : Nat) :
    sweepRank .centreOut n k = (if n ≤ 2 * k + 1 then 2 * k + 1 - n else n - 1 - 2 * k) / 2 := by
  have distance : (2 * (k : Int) - ((n : Int) - 1)).natAbs = if n ≤ 2 * k + 1 then 2 * k + 1 - n else n - 1 - 2 * k := by
    split_ifs <;> omega
  unfold sweepRank
  rw [distance]

theorem pickAt_loop_over {loops d n : Nat} {u : Int} (hl : 0 < loops) (hu : (loops * d * 256 : Nat) ≤ u) :
    pickAt .loop loops d n u = .nothing := if_pos ⟨hl, hu⟩

theorem pickAt_loop_within {loops d n : Nat} {u : Int} (h : loops = 0 ∨ u < (loops * d * 256 : Nat)) :
    pickAt .loop loops d n u = .moment (u / 256 % d).toNat := by
  refine if_neg fun past => ?_
  obtain ⟨hl, hu⟩ := past
  rcases h with h | h
  · exact hl.ne' h
  · exact h.not_ge hu

/-- Before the start of a track that does not loop its first keyframe shows. -/
theorem pickAt_before {mode : RunMode} {loops d n : Nat} {u : Int} (hm : mode = .once ∨ mode = .holdLast) (hu : u < 0) :
    pickAt mode loops d n u = .single 0 := by
  rcases hm with rfl | rfl <;> exact if_pos hu

theorem pickAt_within {mode : RunMode} {loops d n : Nat} {u : Int} (hm : mode = .once ∨ mode = .holdLast) (h0 : 0 ≤ u)
    (hu : u < (d * 256 : Nat)) : pickAt mode loops d n u = .moment (u / 256).toNat := by
  rcases hm with rfl | rfl <;> exact (if_neg h0.not_gt).trans (if_pos hu)

/-- After the end of such a track nothing shows, or its last keyframe does. -/
theorem pickAt_after {mode : RunMode} {loops d n : Nat} {u : Int} (hm : mode = .once ∨ mode = .holdLast)
    (hu : (d * 256 : Nat) ≤ u) : pickAt mode loops d n u = if mode = .once then .nothing else .single (n - 1) := by
  have h0 : ¬u < 0 := by omega
  rcases hm with rfl | rfl <;> exact (if_neg h0).trans (if_neg hu.not_gt)

/-- The keyframe times up to a moment of segment i are the first i + 1. -/
theorem length_takeWhile_of_rising {t a b : Nat} {times : List Nat} (hr : times.Pairwise (· < ·)) : ∀ {i : Nat},
    times[i]? = some a → times[i + 1]? = some b → a ≤ t → t < b →
      (times.takeWhile fun x => decide (x ≤ t)).length = i + 1 := by
  induction times with
  | nil => exact fun ha => nomatch ha
  | cons x xs ih =>
    obtain ⟨hx, hxs⟩ := List.pairwise_cons.1 hr
    intro i ha hb hat htb
    cases i with
    | zero =>
      obtain rfl := Option.some.inj ha
      cases xs with
      | nil => exact nomatch hb
      | cons y ys =>
        obtain rfl := Option.some.inj hb
        simp [hat, htb]
    | succ i =>
      have hxt : x ≤ t := (hx a (List.mem_of_getElem? ha)).le.trans hat
      simp [hxt, ih hxs ha hb hat htb]

theorem segmentAt_eq {t i a b : Nat} {times : List Nat} (hr : times.Pairwise (· < ·)) (ha : times[i]? = some a)
    (hb : times[i + 1]? = some b) (hat : a ≤ t) (htb : t < b) : segmentAt times t = i := by
  unfold segmentAt
  rw [length_takeWhile_of_rising hr ha hb hat htb, Nat.add_sub_cancel]

/-! ### S1: keyframes, and the one held in place of a damaged one (R25, R26, R70) -/

section

variable {pm : PatternMemory} {k : TrackId} {t : Track}

theorem PatternMemory.damagedKey_iff {i : Nat} :
    pm.damagedKey t i = true ↔ (pm.key t i).mismatched = true ∨ i ∈ t.damage := by
  unfold PatternMemory.damagedKey
  rw [Bool.or_eq_true, decide_eq_true_iff]

theorem PatternMemory.heldBelow_damaged {d : Nat} (h : pm.damagedKey t d = true) (found : List (TrackId × Nat)) :
    pm.heldBelow k t found (d + 1) = pm.heldBelow k t (found ++ pm.readFinds k t d) d := if_pos h

theorem PatternMemory.heldBelow_whole {d : Nat} (h : ¬pm.damagedKey t d = true) (found : List (TrackId × Nat)) :
    pm.heldBelow k t found (d + 1) = (pm.key t d).sampled (found ++ pm.readFinds k t d) := if_neg h

theorem PatternMemory.sampleTrack_nothing {mode : RunMode} {loops : Nat} {u : Int}
    (h : pickAt mode loops t.duration t.count u = .nothing) :
    pm.sampleTrack k t mode loops u = Sampled.none [] := by
  unfold PatternMemory.sampleTrack
  rw [h]

theorem PatternMemory.sampleTrack_single {mode : RunMode} {loops i : Nat} {u : Int}
    (h : pickAt mode loops t.duration t.count u = .single i) :
    pm.sampleTrack k t mode loops u =
      if pm.damagedKey t i then pm.heldBelow k t (pm.readFinds k t i) i
      else (pm.key t i).sampled (pm.readFinds k t i) := by
  unfold PatternMemory.sampleTrack
  rw [h]
  rfl

/-- At a moment of a track the two keyframes of its segment are read in ascending order (log 12). -/
theorem PatternMemory.sampleTrack_moment {mode : RunMode} {loops m : Nat} {u : Int}
    (h : pickAt mode loops t.duration t.count u = .moment m) :
    let i := segmentAt t.times m
    let found := pm.readFinds k t i ++ pm.readFinds k t (i + 1)
    pm.sampleTrack k t mode loops u =
      if pm.damagedKey t i then pm.heldBelow k t found i
      else if pm.damagedKey t (i + 1) then pm.heldBelow k t found (i + 1)
      else (pm.key t i).blend (pm.key t (i + 1))
        (easeWeight (pm.key t i).ease m (t.times.getD i 0) (t.times.getD (i + 1) 0)) found := by
  unfold PatternMemory.sampleTrack
  rw [h]
  rfl

/-! ### S1: players and layers (R20, R21) -/

theorem PlayerState.shows_iff {x : PlayerState} :
    x.shows = true ↔ x = .running ∨ x = .paused ∨ x = .tail ∨ x = .holding := by
  cases x <;> simp [PlayerState.shows]

/-- A player that shows no track gives coverage 0. -/
theorem PatternMemory.samplePlayer_nothing {x : PlayerSnap} (h : ¬x.state.shows = true ∨ x.track = none)
    (rank step : Nat) : pm.samplePlayer x rank step = Sampled.none [] := by
  unfold PatternMemory.samplePlayer
  rcases h with h | h
  · exact if_neg h
  · rw [h]
    exact ite_self _

theorem PatternMemory.samplePlayer_track {x : PlayerSnap} (hs : x.state.shows = true) (hk : x.track = some k)
    (ht : pm.tracks[k] = some t) (rank step : Nat) :
    pm.samplePlayer x rank step =
      pm.sampleTrack k t x.mode x.loops ((x.elapsed : Int) - (rank * step * 256 : Nat)) := by
  unfold PatternMemory.samplePlayer
  simp only [if_pos hs, hk, ht]

theorem PatternMemory.sampleLayer_solid {x : LayerRec} {a : RGB} (h : x.source = .solid a) (players : Tab PlayerSnap 16)
    (count o : Nat) : pm.sampleLayer players x count o = ⟨a, 255, []⟩ := by
  unfold PatternMemory.sampleLayer
  rw [h]

theorem PatternMemory.sampleLayer_gradient {x : LayerRec} {a b : RGB} (h : x.source = .gradient a b)
    (players : Tab PlayerSnap 16) (count o : Nat) :
    pm.sampleLayer players x count o =
      ⟨a.map2 (gradientAt (x.span count).count (o - (x.span count).first)) b, 255, []⟩ := by
  unfold PatternMemory.sampleLayer
  rw [h]

theorem PatternMemory.sampleLayer_track {x : LayerRec} {p : PlayerId} (h : x.source = .track p)
    (players : Tab PlayerSnap 16) (count o : Nat) :
    pm.sampleLayer players x count o =
      pm.samplePlayer players[p] (sweepRank x.sweep (x.span count).count (o - (x.span count).first)) x.step := by
  unfold PatternMemory.sampleLayer
  rw [h]

end

/-! ### S2: the layers that contribute (R18) -/

theorem LayerRec.contributes_eq (y : LayerRec) (o : Nat) :
    y.contributes o = decide (y.state ≠ .parked ∧ ∀ r ∈ y.range, r.first ≤ o ∧ o < r.first + r.count) := by
  unfold LayerRec.contributes
  cases y.range <;> simp

theorem Job.contributing_eq (j : Job) (z : ZoneId) (o : Nat) :
    j.contributing z o = j.zoneStacks[z].filter fun y =>
      decide (y.state ≠ .parked ∧ ∀ r ∈ y.range, r.first ≤ o ∧ o < r.first + r.count) :=
  List.filter_congr fun y _ => y.contributes_eq o

/-! ### S4 and S5 in signed arithmetic (R30, R31) -/

theorem clampInt_eq {lo hi : Int} (h : lo ≤ hi) (x : Int) : clampInt lo hi x = max lo (min hi x) := by
  unfold clampInt
  split_ifs <;> omega

theorem corrected_eq (mr mg mb : Int) (v : RGB) :
    (corrected mr mg mb v : Int) = max 0 (min 4095 ((mr * v.r + mg * v.g + mb * v.b + 2048) / 4096)) := by
  unfold corrected
  rw [clampInt_eq (by decide)]
  exact Int.toNat_of_nonneg (le_max_left _ _)

theorem thermalGain_eq (k temp : Int) :
    (thermalGain k temp : Int) = max 2048 (min 8191 (4096 + k * (temp - 25))) := by
  unfold thermalGain
  rw [clampInt_eq (by decide)]
  exact Int.toNat_of_nonneg (le_trans (by decide) (le_max_left _ _))

theorem gained_eq (k temp : Int) (v : Nat) :
    gained k temp v = (min 4095 (((v : Int) * max 2048 (min 8191 (4096 + k * (temp - 25))) + 2048) / 4096)).toNat := by
  rw [← thermalGain_eq]
  unfold gained
  omega

/-- S4 and S5 of one component. -/
theorem gained_corrected (k temp mr mg mb : Int) (v : RGB) :
    gained k temp (corrected mr mg mb v) =
      (min 4095 ((max 0 (min 4095 ((mr * v.r + mg * v.g + mb * v.b + 2048) / 4096)) *
        max 2048 (min 8191 (4096 + k * (temp - 25))) + 2048) / 4096)).toNat := by
  rw [gained_eq, corrected_eq]

/-! ### The zone of a node (R9, R15) -/

/-- A DEFINED zone of the job's lane covers a position. -/
abbrev Job.Covers (j : Job) (z : ZoneId) (p : Nat) : Prop :=
  j.zones[z].defined = true ∧ j.zones[z].lane = j.lane ∧ j.zones[z].first ≤ p ∧ p < j.zones[z].first + j.zones[z].count

theorem Job.covers_iff {j : Job} {z : ZoneId} {p : Nat} :
    (j.zoneOnLane z && decide (j.zones[z].first ≤ p ∧ p < j.zones[z].first + j.zones[z].count)) = true ↔ j.Covers z p := by
  simp only [Job.zoneOnLane, Bool.and_eq_true, decide_eq_true_eq, and_assoc]

theorem Job.zoneOf_eq_none {j : Job} {p : Nat} (h : ∀ z, ¬j.Covers z p) : j.zoneOf p = none :=
  List.find?_eq_none.2 fun z _ found => h z (Job.covers_iff.1 found)

theorem Job.zoneOf_eq_some {j : Job} {p : Nat} {z : ZoneId} (h : j.Covers z p) (only : ∀ y, j.Covers y p → y = z) :
    j.zoneOf p = some z := by
  cases hz : j.zoneOf p with
  | none => exact absurd (Job.covers_iff.2 h) (List.find?_eq_none.1 hz z (List.mem_finRange z))
  | some y =>
    have found := List.find?_some hz
    exact congrArg some (only y (Job.covers_iff.1 found))

/-- A node in no zone is dark, and no layer contributes to it. -/
theorem Job.node_dark {j : Job} {p : Nat} (h : ∀ z, ¬j.Covers z p) (pm : PatternMemory) (working : Tab CalSet 8)
    (flags : FaultFlags) : j.node pm working flags p = (RGB.zero, []) ∧ j.layersAt p = 0 := by
  unfold Job.node Job.layersAt
  rw [Job.zoneOf_eq_none h]
  exact ⟨rfl, rfl⟩

theorem Job.node_zone {j : Job} {p : Nat} {z : ZoneId} (h : j.zoneOf p = some z) (pm : PatternMemory)
    (working : Tab CalSet 8) (flags : FaultFlags) :
    let x := j.zones[z]
    let acc := j.stacked pm z (p - x.first)
    j.layersAt p = (j.contributing z (p - x.first)).length ∧
      j.node pm working flags p =
        (faultPolicyOf x.policy flags
          (gainedBy working[x.set] j.temp (correctedBy working[x.set] (acc.1.map (levelled x.trim j.master)))), acc.2) := by
  unfold Job.node Job.layersAt
  rw [h]
  exact ⟨rfl, rfl⟩

/-! ### What a job hands over (R36 to R38, R142) -/

theorem heldIn_iff {ranges : List Range} {p : Nat} :
    heldIn ranges p = true ↔ ∃ r ∈ ranges, r.first ≤ p ∧ p < r.first + r.count := by
  simp only [heldIn, List.any_eq_true, decide_eq_true_eq]

theorem Job.entries_getElem? {j : Job} {working : Tab CalSet 8} {p : Nat} (h : p < j.nodeCount) :
    (j.entries working)[p]? = some (j.entry (j.scale working) p (j.duties.getD p RGB.zero)) := by
  unfold Job.entries
  rw [List.getElem?_map, List.getElem?_range h]
  rfl

/-- The entry of a node is kept for its slot exactly while the lane takes entries for it and it is ready in time (R142). -/
theorem Lane.takeEntry_eq {x : Lane} {f : Frame} (hf : x.frame = some f) (p ready : Nat) (e : Entry) :
    x.takeEntry p ready e =
      if f.fed = true ∧ f.closed = false ∧ f.nextSlot ≤ p ∧ ready ≤ x.slotStart f p then
        { x with frame := some { f with slots := f.slots.set p (some e) } }
      else x := by
  unfold Lane.takeEntry
  simp only [hf, Bool.and_eq_true, Bool.not_eq_true', decide_eq_true_eq, and_assoc]

end Sys2Proof.Machine
end

section
/-! SUPPORT. NODE_COMPOSE, and the completion of a job (R36 to R38, R68, R121, R135, R136). -/

namespace Sys2Proof.Machine

/-! ### NODE_COMPOSE -/

/-- One node composed: the mismatches found are reported, the job has its duties, and a DIRECT lane is handed its entry. -/
theorem State.composeNode_eq (s : State) (j : Job) :
    let p := j.duties.length
    let r := s.nextNode j
    let ready := j.readyAt + j.nodeCost p
    let t := (s.clockTo ready).reportAll r.2
    s.composeNode j =
      { t with
        engine := { s.engine with job := some { j with duties := j.duties ++ [r.1], readyAt := ready, reached := none } }
        lanes := if j.latency = .buffered ∨ j.stale = true then s.lanes
          else s.lanes.put j.lane (s.lanes[j.lane].takeEntry p ready (j.entry j.scaleHeld p r.1)) } := by
  intro p r ready t
  have engine : t.engine = s.engine := State.ChangesOnly.reportAll _ _ .engine (by decide)
  have lanes : t.lanes = s.lanes := State.ChangesOnly.reportAll _ _ .lanes (by decide)
  unfold State.composeNode
  dsimp only
  cases hd : j.latency with
  | buffered =>
    simp only [true_or, if_true, ← engine, ← lanes]
    rfl
  | direct =>
    cases hs : j.stale with
    | true =>
      simp only [or_true, if_true, ← engine, ← lanes]
      rfl
    | false =>
      simp only [reduceCtorEq, or_self, if_false, ← engine, ← lanes]
      rfl

theorem exec_nodeCompose {s : State} {j : Job} (hj : s.engine.job = some j) (hn : j.duties.length < j.nodeCount) :
    exec .nodeCompose s = .next (s.composeNode j) := by
  show Host.Outcome.next _ = _
  rw [hj]
  exact congrArg _ (if_pos hn)

/-! ### The completion of a job -/

theorem State.jobEnd_finished {s : State} {j : Job} (hj : s.engine.job = some j) (hn : j.nodeCount ≤ j.duties.length) :
    s.jobEnd = s.completeJob j := by
  unfold State.jobEnd Engine.finished
  simp only [hj, if_neg hn.not_gt]

/-- What a lane takes of a job's result, in the terms of the rules: the entries and the scale factor when it is BUFFERED, the
scale factor of a job that is not stale when it is DIRECT. -/
theorem State.takeResult_eq (s : State) (j : Job) :
    let x := s.lanes[j.lane]
    s.takeResult j =
      { s with
        lanes := if (x.state = .running ∨ x.state = .starting) ∧ s.power.state = .active then
            (if j.latency = .buffered then
              s.lanes.put j.lane
                { x with back := j.entries s.cal.working, backReady := true, scale := j.scale s.cal.working }
             else if j.stale then s.lanes
             else s.lanes.put j.lane { x with scale := j.scale s.cal.working })
          else s.lanes } := by
  intro x
  unfold State.takeResult
  dsimp only
  split
  · cases j.latency with
    | buffered => rfl
    | direct => cases j.stale <;> rfl
  · rfl

/-- The state after the last job of the queue has handed over its result, with no job left. -/
def State.jobDone (s : State) (j : Job) : State :=
  ((s.clockTo j.readyAt).takeResult j).setEngine ⟨[], none⟩

/-- A job that completes with no request behind it, outside SLEEPING: only its held write is left to apply. -/
theorem State.completeJob_last {s : State} {j : Job} (he : s.engine = ⟨[], some j⟩) (hp : s.power.state ≠ .sleeping) :
    s.completeJob j = (s.jobDone j).applyHeld := by
  have kept : ((s.clockTo j.readyAt).takeResult j).engine = ⟨[], some j⟩ :=
    Eq.trans (State.ChangesOnly.takeResult _ j .engine (by decide)) he
  have power : (s.jobDone j).applyHeld.power = s.power :=
    Eq.trans (State.ChangesOnly.applyHeld _ .power (by decide))
      (State.ChangesOnly.takeResult (s.clockTo j.readyAt) j .power (by decide))
  have engine : (s.jobDone j).applyHeld.engine = ⟨[], none⟩ := State.ChangesOnly.applyHeld _ .engine (by decide)
  have idle : (s.jobDone j).applyHeld.startJob = (s.jobDone j).applyHeld := by
    unfold State.startJob
    rw [engine]
  unfold State.completeJob
  dsimp only
  rw [kept]
  show (s.jobDone j).applyHeld.startJob.standbyCheck = _
  rw [idle, State.standbyCheck_awake (by rw [power]; exact hp)]

/-- A job that completes with a request behind it: that request is the next job, and no node count has changed. -/
theorem State.completeJob_next {s : State} {j : Job} {r : Request} {queue : List Request}
    (he : s.engine = ⟨r :: queue, some j⟩) :
    ∃ t : State, (s.completeJob j).engine = ⟨queue, some (t.newJob r)⟩ ∧
      ∀ l : LaneId, t.lanes[l].nodeCount = s.lanes[l].nodeCount := by
  have kept : ((s.clockTo j.readyAt).takeResult j).engine = ⟨r :: queue, some j⟩ :=
    Eq.trans (State.ChangesOnly.takeResult _ j .engine (by decide)) he
  have engine (e : Engine) : (((s.clockTo j.readyAt).takeResult j).setEngine e).applyHeld.engine = e :=
    State.ChangesOnly.applyHeld _ .engine (by decide)
  have chains (e : Engine) (l : LaneId) :
      (((s.clockTo j.readyAt).takeResult j).setEngine e).applyHeld.lanes[l].nodeCount = s.lanes[l].nodeCount :=
    (State.ChangesOnly.applyHeld _ .chains (by decide) l).trans (State.ChangesOnly.takeResult _ j .chains (by decide) l)
  refine ⟨_, ?_, chains ⟨r :: queue, none⟩⟩
  unfold State.completeJob
  dsimp only
  rw [kept, show (State.standbyCheck _).engine = _ from State.ChangesOnly.standbyCheck _ .engine (by decide)]
  unfold State.startJob
  rw [engine]
  rfl

/-! ### The held write (R68, R121) -/

/-- An answer to the command in dispatch, as the statements write it: the buffer is as it was. -/
theorem LinkState.joinReply_eq_answered (k : LinkState) (m : LinkMsg) (status : Status) (fields : List Byte) :
    k.joinReply (replyTo m status fields) = k.answered k.buffer m status fields := by
  unfold LinkState.joinReply LinkState.answered
  split_ifs <;> rfl

theorem State.applyHeld_nothing {s : State} (hk : ∀ m, s.link.inDispatch ≠ some (.heldKeys m))
    (hs : ∀ m, s.link.inDispatch ≠ some (.heldSet m)) : s.applyHeld = s := by
  unfold State.applyHeld
  split
  · next m h => exact absurd h (hk m)
  · next m h => exact absurd h (hs m)
  · rfl

/-- A held KEYS_WRITE is applied and answered with the track's state and duration. -/
theorem State.applyHeld_keys {s : State} {m : LinkMsg} {a : KeysWriteArgs} {t : Track}
    (hd : s.link.inDispatch = some (.heldKeys m)) (ha : parseKeysWrite m.payload = some a)
    (ht : s.pattern.tracks[a.track] = some t) :
    s.applyHeld =
      { s with
        pattern := s.pattern.applyKeys a t
        link := s.link.answered s.link.buffer m .ok
          [BitVec.ofNat 8 (trackStateCode (some (a.track' t))), BitVec.ofNat 8 ((a.track' t).duration / 256),
            BitVec.ofNat 8 (a.track' t).duration] } := by
  unfold State.applyHeld
  rw [hd]
  dsimp only
  rw [ha]
  dsimp only
  unfold State.finishKeysWrite
  rw [ht]
  dsimp only
  rw [← LinkState.joinReply_eq_answered]
  rfl

theorem State.applyHeld_set {s : State} {m : LinkMsg} {w : SetId} {c : CalSet}
    (hd : s.link.inDispatch = some (.heldSet m)) (hc : calTarget s.cal m = some (w, c)) :
    s.applyHeld =
      { s with
        cal := { s.cal with working := s.cal.working.put w c }
        link := s.link.answered s.link.buffer m .ok [] } := by
  unfold State.applyHeld
  rw [hd]
  dsimp only
  rw [hc, ← LinkState.joinReply_eq_answered]
  rfl

/-- The state code of a track that is not FREE, as a byte. -/
theorem trackStateCode_byte (t : Track) :
    BitVec.ofNat 8 (trackStateCode (some t)) = if t.damage ≠ [] ∨ t.rewrite ≠ none then 2 else 1 := by
  have damaged : t.damaged = true ↔ t.damage ≠ [] ∨ t.rewrite ≠ none := by
    simp [Track.damaged, Option.isSome_iff_ne_none]
  unfold trackStateCode
  simp only [damaged]
  split_ifs <;> rfl

theorem exec_keysWriteHeldApply {s : State} {m : LinkMsg} (h : s.link.inDispatch = some (.heldKeys m)) :
    exec .keysWriteHeldApply s = .next s.jobEnd := by
  have holds : s.holdsKeys = true := by
    unfold State.holdsKeys
    rw [h]
  exact congrArg _ (if_pos holds)

theorem exec_workingSetHeldApply {s : State} {m : LinkMsg} (h : s.link.inDispatch = some (.heldSet m)) :
    exec .workingSetHeldApply s = .next s.jobEnd := by
  have holds : s.holdsSet = true := by
    unfold State.holdsSet
    rw [h]
  exact congrArg _ (if_pos holds)

end Sys2Proof.Machine
end

section
/-! What a job reads, S1 to S6, NODE_COMPOSE and the completion of a job, as the statement writes them. -/

namespace Sys2Proof.Machine

/-- What a job reads at its start (R16, R17). -/
theorem State.newJob_eq (s : State) (r : Request) :
    s.newJob r =
      { lane := r.lane
        stale := r.stale
        startedAt := s.clocks.now
        readyAt := s.clocks.now
        nodeCount := s.lanes[r.lane].nodeCount
        zones := s.zones
        zoneStacks := (s.newJob r).zoneStacks
        players := Vector.ofFn fun p =>
          ⟨s.players[p].state, s.players[p].elapsed, s.players[p].settings.track, s.players[p].settings.mode,
            s.players[p].settings.loops⟩
        master := s.cal.master s.sense.band.band
        temp := match s.sense.codes[laneChannel r.lane] with
          | none => 25
          | some code => ((code.toNat * 165 / 4095 : Nat) : Int) - 40
        thermal := s.sense.thermal[r.lane].state
        holdSet := s.lanes[r.lane].holdSet
        budget := s.lanes[r.lane].budget
        derate := s.lanes[r.lane].derate
        latency := s.lanes[r.lane].latency
        lastSent := s.lanes[r.lane].lastSent
        scaleHeld := s.lanes[r.lane].scale
        duties := []
        reached := none } := by
  unfold State.newJob State.laneTemp
  cases s.sense.codes[laneChannel r.lane] <;> rfl

/-- S1 of a track at a node time (R22 to R26, log 12). -/
theorem PatternMemory.sampleTrack_cases (pm : PatternMemory) (k : TrackId) (t : Track) (mode : RunMode) (loops : Nat)
    (u : Int) :
    (pickAt mode loops t.duration t.count u = .nothing → pm.sampleTrack k t mode loops u = Sampled.none []) ∧
    (∀ i, pickAt mode loops t.duration t.count u = .single i →
      (¬pm.damagedKey t i = true → pm.sampleTrack k t mode loops u = (pm.key t i).sampled (pm.readFinds k t i)) ∧
      (pm.damagedKey t i = true → pm.sampleTrack k t mode loops u = pm.heldBelow k t (pm.readFinds k t i) i)) ∧
    ∀ m, pickAt mode loops t.duration t.count u = .moment m →
      let i := segmentAt t.times m
      let found := pm.readFinds k t i ++ pm.readFinds k t (i + 1)
      (pm.damagedKey t i = true → pm.sampleTrack k t mode loops u = pm.heldBelow k t found i) ∧
      (¬pm.damagedKey t i = true → pm.damagedKey t (i + 1) = true →
        pm.sampleTrack k t mode loops u = pm.heldBelow k t found (i + 1)) ∧
      (¬pm.damagedKey t i = true → ¬pm.damagedKey t (i + 1) = true →
        pm.sampleTrack k t mode loops u = (pm.key t i).blend (pm.key t (i + 1))
          (easeWeight (pm.key t i).ease m (t.times.getD i 0) (t.times.getD (i + 1) 0)) found) := by
  refine ⟨PatternMemory.sampleTrack_nothing, fun i h => ?_, fun m h => ?_⟩
  · rw [PatternMemory.sampleTrack_single h]
    exact ⟨fun h => if_neg h, fun h => if_pos h⟩
  · intro i found
    rw [PatternMemory.sampleTrack_moment h]
    exact ⟨fun hi => if_pos hi, fun hi hj => (if_neg hi).trans (if_pos hj), fun hi hj => (if_neg hi).trans (if_neg hj)⟩

/-- Settles O48: each clause is the lemma above for its stage of the pipeline, for NODE_COMPOSE or for the completion. -/
theorem jobsComposeAndComplete : Obligations.JobsComposeAndComplete := by
  unfold Obligations.JobsComposeAndComplete
  refine ⟨fun s r => ⟨s.newJob_eq r, fun z => Vector.getElem_ofFn ..⟩, fun n k a b => rfl,
    fun n k => ⟨rfl, rfl, sweepRank_centreOut n k, rfl⟩, ?pick, fun times t i a b => segmentAt_eq,
    fun t t0 t1 => ⟨rfl, rfl, rfl⟩, fun w v0 v1 => rfl, ?track, ?layer, fun a c acc => ⟨rfl, rfl, rfl⟩, ?node, ?entries,
    ?take, ?compose, ?last, ?next⟩
  case pick =>
    exact fun loops d n u => ⟨pickAt_loop_over, pickAt_loop_within,
      fun mode hm => ⟨pickAt_before hm, pickAt_within hm, pickAt_after hm⟩⟩
  case track =>
    intro pm k t bad finds shown
    have hbad (i : Nat) : pm.damagedKey t i = true ↔ bad i := PatternMemory.damagedKey_iff
    refine ⟨fun found => rfl, fun found d => ⟨fun h => ?_, fun h => ?_⟩, fun mode loops u => ?_⟩
    · exact PatternMemory.heldBelow_damaged ((hbad d).2 h) found
    · exact PatternMemory.heldBelow_whole (mt (hbad d).1 h) found
    · have cases := pm.sampleTrack_cases k t mode loops u
      simp only [hbad] at cases
      exact cases
  case layer =>
    intro pm players x count o r k
    refine ⟨fun a h => PatternMemory.sampleLayer_solid h .., fun a b h => PatternMemory.sampleLayer_gradient h ..,
      fun p h => ?_⟩
    intro y shows
    have hshows : y.state.shows = true ↔ shows := PlayerState.shows_iff
    rw [PatternMemory.sampleLayer_track h]
    refine ⟨fun hidden => ?_, fun id t hs hk ht => ?_⟩
    · rw [← hshows] at hidden
      exact PatternMemory.samplePlayer_nothing hidden ..
    · exact PatternMemory.samplePlayer_track (hshows.2 hs) hk ht ..
  case node =>
    intro j pm working flags p covers
    refine ⟨fun h => Job.node_dark h pm working flags, fun z h only => ?_⟩
    intro x c o layers acc level row gain
    obtain ⟨hlayers, hnode⟩ := Job.node_zone (Job.zoneOf_eq_some h only) pm working flags
    have contributing : j.contributing z o = layers := j.contributing_eq z o
    have stacked : j.stacked pm z o = acc := by
      unfold Job.stacked
      rw [contributing]
      rfl
    refine ⟨hlayers.trans (congrArg _ contributing), ?_⟩
    rw [hnode, stacked]
    unfold faultPolicyOf gainedBy correctedBy
    simp only [gained_corrected]
    rfl
  case entries =>
    refine fun j working => ⟨fun s p v => ?_, ?_, fun p => Job.entries_getElem?⟩
    · unfold Job.entry Job.held
      simp only [heldIn_iff]
      rfl
    · unfold Job.entries
      rw [List.length_map, List.length_range]
  case take =>
    intro x p ready e
    refine ⟨fun hf => ?_, fun f hf => ?_⟩
    · unfold Lane.takeEntry
      rw [hf]
    · intro opens
      rw [Lane.takeEntry_eq hf]
      exact ⟨fun h => if_pos h, fun h => if_neg h⟩
  case compose =>
    intro s j hj hn
    rw [exec_nodeCompose hj hn, State.composeNode_eq]
    rfl
  case last =>
    intro s j he hn hp x taken done
    have hj : s.engine.job = some j := by rw [he]
    have ended : s.jobEnd = done.applyHeld := by
      rw [State.jobEnd_finished hj hn, State.completeJob_last he hp]
      unfold State.jobDone
      rw [State.takeResult_eq]
      rfl
    refine ⟨fun hk hs => ?_, fun m a t hd ha ht => ?_, fun m w c hd hc => ?_⟩
    · show Host.Outcome.next s.jobEnd = _
      rw [ended, State.applyHeld_nothing (s := done) hk hs]
    · rw [exec_keysWriteHeldApply hd, ended, State.applyHeld_keys (s := done) hd ha ht, trackStateCode_byte]
    · rw [exec_workingSetHeldApply hd, ended, State.applyHeld_set (s := done) hd hc]
  case next =>
    intro s j r queue he hn
    have hj : s.engine.job = some j := by rw [he]
    obtain ⟨t, engine, chains⟩ := State.completeJob_next he
    refine ⟨s.completeJob j, t.newJob r, ?_, engine, rfl, rfl, chains r.lane⟩
    show Host.Outcome.next s.jobEnd = _
    rw [State.jobEnd_finished hj hn]

end Sys2Proof.Machine
end

section
/-! The budget scale factor (R35): a job whose capacity exceeds its held demand, and whose factor is 0 all the same. -/

namespace Sys2Proof.Machine

/-- In the last row of R35 the factor is 0 when the demand is more than 65,536 times the capacity that the held nodes leave. -/
theorem budgetScale_eq_zero {cap held demand : Nat} (hheld : held < cap) (hd : (cap - held) * 65536 < demand) :
    budgetScale cap held demand = 0 := by
  have nonzero : demand ≠ 0 := (Nat.zero_lt_of_lt hd).ne'
  have left : 1 ≤ cap - held := Nat.sub_pos_of_lt hheld
  have unfit : ¬held + demand ≤ cap := by omega
  unfold budgetScale
  rw [if_neg nonzero, if_neg unfit, if_neg hheld.not_ge]
  exact Nat.div_eq_of_lt hd

/-- Working sets whose currents are 1 but for the red one of set 1, which is 255. -/
def tightSets : Tab CalSet 8 :=
  Vector.ofFn fun n => { (default : CalSet) with iR := if n = 1 then 255 else 1, iG := 1, iB := 1 }

/-- A job of a lane of two nodes with a budget of 1 (0.1 mA): the node of zone 0 is held and was last sent (4094, 0, 0), and S6
gave the node of zone 1 (257, 2, 0). -/
def tightJob : Job where
  lane := 0
  stale := false
  startedAt := 0
  readyAt := 0
  nodeCount := 2
  zones := Vector.ofFn fun z =>
    if z = 0 then ⟨true, 0, 0, 1, 0, 255, .showAll⟩
    else if z = 1 then ⟨true, 0, 1, 1, 1, 255, .showAll⟩
    else ZoneRec.undefined
  zoneStacks := Vector.replicate 16 []
  players := Vector.replicate 16 ⟨.idle, 0, none, .once, 0⟩
  master := 1023
  temp := 25
  thermal := .normal
  holdSet := [⟨0, 1⟩]
  budget := 1
  derate := 128
  latency := .buffered
  lastSent := [some ⟨4094, 0, 0⟩, none]
  scaleHeld := 65536
  duties := [RGB.zero, ⟨257, 2, 0⟩]
  reached := none

/-- The capacity, the held demand and the demand of that job. -/
theorem tightJob_demands : tightJob.effectiveBudget * 4095 = 4095 ∧ tightJob.heldDemand tightSets = 4094 ∧
    tightJob.demand tightSets = 65537 := by
  decide +kernel

/-- Refutes O54: the last row of R35 does not keep the factor at 1 or more, as the sentence under its table says. The job above
leaves a capacity of 1 to a demand of 65,537, and its factor is floor(1 × 65,536 / 65,537) = 0. -/
theorem not_budgetScaleTable : ¬Obligations.BudgetScaleTable := by
  unfold Obligations.BudgetScaleTable
  rintro ⟨table, -⟩
  obtain ⟨hcap, hheld, hdemand⟩ := tightJob_demands
  obtain ⟨-, -, -, lastRow, -⟩ :=
    table (tightJob.effectiveBudget * 4095) (tightJob.heldDemand tightSets) (tightJob.demand tightSets)
  rw [hcap, hheld, hdemand] at lastRow
  obtain ⟨-, positive, -⟩ := lastRow (by decide) (by decide) (by decide)
  rw [budgetScale_eq_zero (by decide) (by decide)] at positive
  exact Nat.not_succ_le_zero 0 positive

end Sys2Proof.Machine
end

section
/-! Commands that write one player's record and answer: PLAYER_ARM and PLAYER_STOP (R89, R90). -/

namespace Sys2Proof.Machine

/-! ### The answer beside one player's record -/

/-- A command whose own rule only answers. -/
theorem State.Takes.answers {s : State} {kind : Byte} {len : List Byte → Bool} {m : LinkMsg} {rest : List LinkMsg}
    {c : Instr} {body : LinkMsg → State → State} {status : Status} {fields : List Byte} (h : s.Takes kind len m rest)
    (hc : exec c s = .next (s.dispatch kind len false body))
    (hb : body m s.takeFront = s.takeFront.answer m status fields) :
    exec c s = .next { s with link := s.link.answered rest m status fields } := by
  rw [hc, State.dispatch_takes h, hb, h.answer]

/-- A command whose own rule writes one player and answers. -/
theorem State.Takes.writesPlayer {s : State} {kind : Byte} {len : List Byte → Bool} {m : LinkMsg} {rest : List LinkMsg}
    {c : Instr} {body : LinkMsg → State → State} {status : Status} {fields : List Byte} {p : PlayerId} {y : Player}
    (h : s.Takes kind len m rest) (hc : exec c s = .next (s.dispatch kind len false body))
    (hb : body m s.takeFront = (s.takeFront.setPlayer p y).answer m status fields) :
    exec c s = .next { s with players := s.players.put p y, link := s.link.answered rest m status fields } := by
  have order : (s.takeFront.setPlayer p y).answer m status fields = (s.takeFront.answer m status fields).setPlayer p y := rfl
  rw [hc, State.dispatch_takes h, hb, order, h.answer]
  rfl

theorem State.setPlayer_same (s : State) (p : PlayerId) : s.setPlayer p s.players[p] = s := by
  unfold State.setPlayer
  rw [Tab.put_get]

theorem PlayerState.busy_iff {x : PlayerState} : x.busy = true ↔ x = .running ∨ x = .paused ∨ x = .tail := by
  cases x <;> decide

theorem flag_isSome {α : Type} [DecidableEq α] (o : Option α) : flag o.isSome = [if o = none then 0 else 1] := by
  cases o <;> rfl

/-! ### PLAYER_ARM and PLAYER_STOP (R89, R90) -/

theorem Player.arm_armed {x : Player} (h : x.state = .armed) : x.arm = x := if_pos h

theorem Player.arm_rests {x : Player} (h : x.state ≠ .armed) :
    x.arm = { x with state := .armed, elapsed := 0, holdPassed := false, windowLeft := none } := if_neg h

theorem cmdPlayerArm_range {m : LinkMsg} (s : State) (h : 16 ≤ fieldU8 m.payload 0) :
    cmdPlayerArm m s = s.answer m .range [] := by
  unfold cmdPlayerArm
  rw [idOf_out h]
  rfl

theorem cmdPlayerArm_refused {m : LinkMsg} {s : State} {p : PlayerId} (h : fieldU8 m.payload 0 = p.val)
    (hx : s.players[p].settings.track = none ∨ s.players[p].state.busy = true) :
    cmdPlayerArm m s = s.answer m .state [] := by
  unfold cmdPlayerArm
  rw [idOf_val h]
  rcases hx with hx | hx
  · simp only [hx, Option.isNone_none, if_true]
    rfl
  · simp only [hx, if_true, ite_self]
    rfl

theorem cmdPlayerArm_ok {m : LinkMsg} {s : State} {p : PlayerId} (h : fieldU8 m.payload 0 = p.val)
    (ht : s.players[p].settings.track ≠ none) (hb : ¬s.players[p].state.busy = true) :
    cmdPlayerArm m s = (s.setPlayer p s.players[p].arm).answer m .ok [BitVec.ofNat 8 s.players[p].arm.state.code] := by
  unfold cmdPlayerArm
  rw [idOf_val h]
  simp only [Option.isNone_iff_eq_none, if_neg ht, if_neg hb]
  rfl

/-- An ARMED player stays as it is (R89). -/
theorem cmdPlayerArm_armed {m : LinkMsg} {s : State} {p : PlayerId} (h : fieldU8 m.payload 0 = p.val)
    (ht : s.players[p].settings.track ≠ none) (hs : s.players[p].state = .armed) :
    cmdPlayerArm m s = s.answer m .ok [1] := by
  have idle : ¬s.players[p].state.busy = true := by
    rw [hs]
    decide
  rw [cmdPlayerArm_ok h ht idle, Player.arm_armed hs, State.setPlayer_same, hs]
  rfl

/-- A player at rest is armed at E 0 (R89). -/
theorem cmdPlayerArm_resting {m : LinkMsg} {s : State} {p : PlayerId} (h : fieldU8 m.payload 0 = p.val)
    (ht : s.players[p].settings.track ≠ none)
    (hs : s.players[p].state = .idle ∨ s.players[p].state = .ended ∨ s.players[p].state = .holding) :
    cmdPlayerArm m s =
      (s.setPlayer p
        { s.players[p] with state := .armed, elapsed := 0, holdPassed := false, windowLeft := none }).answer m .ok [1] := by
  have rests : ¬s.players[p].state.busy = true ∧ s.players[p].state ≠ .armed := by
    rcases hs with hs | hs | hs <;> rw [hs] <;> decide
  obtain ⟨idle, unarmed⟩ := rests
  rw [cmdPlayerArm_ok h ht idle, Player.arm_rests unarmed]
  rfl

theorem cmdPlayerStop_range {m : LinkMsg} (s : State) (h : 16 ≤ fieldU8 m.payload 0) :
    cmdPlayerStop m s = s.answer m .range [] := by
  unfold cmdPlayerStop
  rw [idOf_out h]
  rfl

theorem cmdPlayerStop_ok {m : LinkMsg} {s : State} {p : PlayerId} (h : fieldU8 m.payload 0 = p.val) :
    cmdPlayerStop m s = (s.setPlayer p s.players[p].stop).answer m .ok
      [BitVec.ofNat 8 s.players[p].state.code, if s.players[p].staged = none then 0 else 1] := by
  unfold cmdPlayerStop
  simp only [idOf_val h, flag_isSome]
  rfl

/-- Settles O33: by the player's state, ARM is refused, keeps an ARMED player as it is, or resets the run; STOP always resets
it. -/
theorem armAndStopResetTheRun : Obligations.ArmAndStopResetTheRun := by
  unfold Obligations.ArmAndStopResetTheRun
  refine ⟨fun s m rest hn => ⟨fun h => h.answers rfl (cmdPlayerArm_range _ hn),
    fun h => h.answers rfl (cmdPlayerStop_range _ hn)⟩, ?_⟩
  intro s m rest p hp x
  refine ⟨fun h => ⟨fun hx => h.answers rfl (cmdPlayerArm_refused hp ?_),
    fun ht hs => h.answers rfl (cmdPlayerArm_armed hp ht hs),
    fun ht hs => h.writesPlayer rfl (cmdPlayerArm_resting hp ht hs)⟩, fun h => h.writesPlayer rfl (cmdPlayerStop_ok hp)⟩
  rwa [PlayerState.busy_iff]

end Sys2Proof.Machine
end

section
/-! SUPPORT. What PLAYER_START and PLAYER_SETUP do to one player, by its state (R87, R88, R91 to R95). -/

namespace Sys2Proof.Machine

/-! ### The track, the end point and the elapsed time under it (R79, R93) -/

/-- Under endless LOOP a timeline has no end point. -/
abbrev Settings.Endless (st : Settings) : Prop := st.mode = .loop ∧ st.loops = 0

/-- U for a track of D ms, where the timeline ends. -/
def Settings.lastPoint (st : Settings) (d : Nat) : Nat := if st.mode = .loop then st.loops * d else d

theorem Settings.endPoint_eq (st : Settings) (d : Nat) :
    st.endPoint d = if st.Endless then none else some (st.lastPoint d) := by
  unfold Settings.endPoint Settings.Endless Settings.lastPoint
  cases st.mode <;> simp

theorem elapsedUnder_eq (st : Settings) (d e : Nat) :
    elapsedUnder (st.endPoint d) d e = if st.Endless then e % (d * 256) else min e (st.lastPoint d * 256) := by
  rw [Settings.endPoint_eq]
  split_ifs <;> rfl

theorem PatternMemory.trackOf_none {pm : PatternMemory} {st : Settings} (h : st.track = none) : pm.trackOf st = none := by
  unfold PatternMemory.trackOf
  rw [h]

theorem PatternMemory.trackOf_some {pm : PatternMemory} {st : Settings} {k : TrackId} (h : st.track = some k) :
    pm.trackOf st = pm.tracks[k] := by
  unfold PatternMemory.trackOf
  rw [h]

/-! ### Settings applied at once, by the player's state (R92, R93) -/

section
variable {x : Player} (st : Settings) (pm : PatternMemory)

theorem Player.applied_idle (h : x.state = .idle ∨ x.state = .ended) :
    x.applied st pm = { x with settings := st, staged := none } := by
  unfold Player.applied
  rcases h with h | h <;> rw [h]

theorem Player.applied_holding (h : x.state = .holding) :
    x.applied st pm =
      { x with settings := st, staged := none, state := if st.mode = .holdLast then .holding else .ended } := by
  unfold Player.applied
  rw [h]

theorem Player.applied_armed (h : x.state = .armed) :
    x.applied st pm =
      { x with settings := st, staged := none, elapsed := 0, holdPassed := false, windowLeft := none } := by
  unfold Player.applied
  rw [h]

theorem Player.applied_paused (h : x.state = .paused) :
    x.applied st pm =
      { x with
        settings := st
        staged := none
        elapsed := elapsedUnder (st.endPoint (pm.durationOf st)) (pm.durationOf st) x.elapsed } := by
  unfold Player.applied
  rw [h]

/-- A player in RUNNING or TAIL, under settings whose timeline has no end. -/
theorem Player.applied_endless (h : x.state = .running ∨ x.state = .tail) (he : st.Endless) :
    x.applied st pm =
      { settings := st
        state := .running
        elapsed := x.elapsed % (pm.durationOf st * 256)
        holdPassed := false
        windowLeft := none
        staged := none } := by
  have noEnd : st.endPoint (pm.durationOf st) = none := by rw [Settings.endPoint_eq, if_pos he]
  unfold Player.applied
  rcases h with h | h <;> simp only [h, noEnd] <;> rfl

/-- A player in RUNNING or TAIL, under settings whose timeline ends. -/
theorem Player.applied_ending (h : x.state = .running ∨ x.state = .tail) (he : ¬st.Endless) :
    x.applied st pm =
      { settings := st
        state := if x.elapsed < st.lastPoint (pm.durationOf st) * 256 then .running else .tail
        elapsed := min x.elapsed (st.lastPoint (pm.durationOf st) * 256)
        holdPassed := decide (st.policy = .extend ∧ pm.holdTimeOf st * 256 ≤ x.elapsed)
        windowLeft := none
        staged := none } := by
  have theEnd : st.endPoint (pm.durationOf st) = some (st.lastPoint (pm.durationOf st)) := by
    rw [Settings.endPoint_eq, if_neg he]
  unfold Player.applied
  rcases h with h | h <;> simp only [h, theEnd] <;> rfl

/-- E brought into the new timeline, for a player on its old one. -/
theorem Player.applied_elapsed (h : x.state = .running ∨ x.state = .tail ∨ x.state = .paused) :
    (x.applied st pm).elapsed =
      if st.Endless then x.elapsed % (pm.durationOf st * 256)
      else min x.elapsed (st.lastPoint (pm.durationOf st) * 256) := by
  rcases or_assoc.2 h with moving | paused
  · split_ifs with he
    · rw [Player.applied_endless st pm moving he]
    · rw [Player.applied_ending st pm moving he]
  · rw [Player.applied_paused st pm paused, elapsedUnder_eq]

end

/-! ### Start (R87) -/

section
variable {x : Player} (p : PlayerId) (pm : PatternMemory)

theorem Player.take_unstaged (h : x.staged = none) (point : TakePoint) : x.take p point pm = (x, []) := by
  unfold Player.take
  rw [h]

theorem Player.take_staged {st : Settings} (h : x.staged = some st) (point : TakePoint) :
    x.take p point pm = (x.applied st pm, stagedNotice p point (x.applied st pm)) := by
  unfold Player.take
  rw [h]

theorem Player.fromZero_unstaged (h : x.staged = none) :
    x.fromZero p pm = ({ x with state := .running, elapsed := 0, holdPassed := false, windowLeft := none }, []) := by
  unfold Player.fromZero
  rw [Player.take_unstaged p pm h]

theorem Player.fromZero_staged {st : Settings} (h : x.staged = some st) :
    x.fromZero p pm =
      ({ settings := st, state := .running, elapsed := 0, holdPassed := false, windowLeft := none, staged := none },
        stagedNotice p .start (x.applied st pm)) := by
  unfold Player.fromZero
  rw [Player.take_staged p pm h]
  simp only [Player.applied_settings, Player.applied_staged]

/-- A start of a player that is not on its timeline. -/
theorem Player.start_rests (h : x.state = .idle ∨ x.state = .armed ∨ x.state = .ended ∨ x.state = .holding) :
    x.start p pm = ((x.fromZero p pm).1, .started, (x.fromZero p pm).2) := by
  unfold Player.start
  rcases h with h | h | h | h <;> simp only [h]

theorem Player.start_replay (h : x.state = .running ∨ x.state = .paused ∨ x.state = .tail)
    (hp : x.settings.policy = .replay) : x.start p pm = ((x.fromZero p pm).1, .replayed, (x.fromZero p pm).2) := by
  unfold Player.start
  rcases h with h | h | h <;> simp only [h, hp]

theorem Player.start_ignore (h : x.state = .running ∨ x.state = .paused ∨ x.state = .tail)
    (hp : x.settings.policy = .ignore) : x.start p pm = (x, .discarded, []) := by
  unfold Player.start
  rcases h with h | h | h <;> simp only [h, hp]

/-- EXTEND in RUNNING goes by whether the hold point has been passed. -/
theorem Player.start_extend_running (h : x.state = .running) (hp : x.settings.policy = .extend) :
    x.start p pm = if x.holdPassed then (x.backToHold pm, .extended, []) else (x, .discarded, []) := by
  unfold Player.start
  simp only [h, hp]

theorem Player.start_extend_tail (h : x.state = .tail) (hp : x.settings.policy = .extend) :
    x.start p pm = (x.backToHold pm, .extended, []) := by
  unfold Player.start
  simp only [h, hp]

theorem Player.start_extend_paused (h : x.state = .paused) (hp : x.settings.policy = .extend) :
    x.start p pm = ({ x with windowLeft := some x.settings.window }, .extended, []) := by
  unfold Player.start
  simp only [h, hp]

end

/-! ### PLAYER_START (R88) -/

/-- Posting does not look at the buffer. -/
theorem LinkState.posted_withBuffer (ns : List Notice) (buffer : List LinkMsg) : ∀ k : LinkState,
    LinkState.posted { k with buffer := buffer } ns = { k.posted ns with buffer := buffer } := by
  induction ns with
  | nil => exact fun _ => rfl
  | cons n ns ih =>
    intro k
    have first : LinkState.post { k with buffer := buffer } n.kind n.fields =
        { k.post n.kind n.fields with buffer := buffer } := by
      unfold LinkState.post
      split_ifs <;> rfl
    exact (congrArg (LinkState.posted · ns) first).trans (ih _)

/-- An answer writes the buffer, whatever it held. -/
theorem LinkState.answered_withBuffer (k : LinkState) (buffer rest : List LinkMsg) (m : LinkMsg) (status : Status)
    (fields : List Byte) :
    LinkState.answered { k with buffer := buffer } rest m status fields = k.answered rest m status fields := by
  unfold LinkState.answered
  split_ifs <;> rfl

/-- Notices posted while a message is in dispatch come before its answer. -/
theorem LinkState.joinReply_posted {k : LinkState} {m : LinkMsg} {rest : List LinkMsg} (hb : k.buffer = m :: rest)
    (ns : List Notice) (status : Status) (fields : List Byte) :
    (LinkState.posted { k with buffer := k.buffer.drop 1 } ns).joinReply (replyTo m status fields) =
      (k.posted ns).answered rest m status fields := by
  rw [LinkState.posted_withBuffer, LinkState.joinReply_eq_answered, LinkState.answered_withBuffer, hb]
  rfl

/-- A start writes the player and posts the notice of a take. -/
theorem State.startPlayer_eq (s : State) (p : PlayerId) :
    s.startPlayer p =
      { s with
        players := s.players.put p (s.players[p].start p s.pattern).1
        link := s.link.posted (s.players[p].start p s.pattern).2.2 } :=
  State.postAll_eq _ _

theorem cmdPlayerStart_range {m : LinkMsg} (s : State) (h : 16 ≤ fieldU8 m.payload 0) :
    cmdPlayerStart m s = s.answer m .range [] := by
  unfold cmdPlayerStart
  rw [idOf_out h]
  rfl

theorem cmdPlayerStart_trackless {m : LinkMsg} {s : State} {p : PlayerId} (h : fieldU8 m.payload 0 = p.val)
    (ht : s.players[p].settings.track = none) : cmdPlayerStart m s = s.answer m .state [] := by
  unfold cmdPlayerStart
  rw [idOf_val h]
  simp only [ht, Option.isNone_none, if_true]
  rfl

/-- The reply fields of a start: its outcome, the player's state and E. -/
def startFields (o : StartOutcome) (y : Player) : List Byte :=
  [BitVec.ofNat 8 o.code, BitVec.ofNat 8 y.state.code, BitVec.ofNat 8 (y.elapsed / 16777216),
    BitVec.ofNat 8 (y.elapsed / 65536), BitVec.ofNat 8 (y.elapsed / 256), BitVec.ofNat 8 y.elapsed]

theorem startFields_zero {o : StartOutcome} {y : Player} (h : y.elapsed = 0) :
    startFields o y = [BitVec.ofNat 8 o.code, BitVec.ofNat 8 y.state.code, 0, 0, 0, 0] := by
  simp [startFields, h]

/-- PLAYER_START of a player that names a track, whatever its start does. -/
theorem exec_playerStart {s : State} {m : LinkMsg} {rest : List LinkMsg} {p : PlayerId} {y : Player} {o : StartOutcome}
    {ns : List Notice} (h : s.Takes kindPlayerStart (lenIs 1) m rest) (hp : fieldU8 m.payload 0 = p.val)
    (ht : s.players[p].settings.track ≠ none) (hy : s.players[p].start p s.pattern = (y, o, ns)) :
    exec .playerStart s = .next
      { s with players := s.players.put p y, link := (s.link.posted ns).answered rest m .ok (startFields o y) } := by
  have taken : cmdPlayerStart m s.takeFront = (s.takeFront.startPlayer p).ok m (startFields o y) := by
    unfold cmdPlayerStart
    simp only [idOf_val hp, State.takeFront_players, State.takeFront_pattern, Option.isNone_iff_eq_none, if_neg ht, hy]
    rfl
  show Host.Outcome.next (s.dispatch kindPlayerStart (lenIs 1) false cmdPlayerStart) = _
  rw [State.dispatch_takes h, taken, State.startPlayer_eq, State.takeFront_players, State.takeFront_pattern, hy]
  obtain ⟨-, -, hb, -, -⟩ := h
  rw [← LinkState.joinReply_posted hb]
  rfl

end Sys2Proof.Machine
end

section
/-! PLAYER_START and PLAYER_SETUP as the statements write them. -/

namespace Sys2Proof.Machine

/-- What a take at a start leaves of E, which the start then sets to 0 (R93, R95). -/
theorem Player.applied_elapsed_started {x : Player} (st : Settings) (pm : PatternMemory)
    (h : x.state = .armed ∨ x.state = .running ∨ x.state = .tail ∨ x.state = .paused) :
    (x.applied st pm).elapsed =
      if x.state = .armed then 0
      else if st.Endless then x.elapsed % (pm.durationOf st * 256)
      else min x.elapsed (st.lastPoint (pm.durationOf st) * 256) := by
  split_ifs with armed endless
  · rw [Player.applied_armed st pm armed]
  · rw [Player.applied_elapsed st pm (h.resolve_left armed), if_pos endless]
  · rw [Player.applied_elapsed st pm (h.resolve_left armed), if_neg endless]

/-- Settles O32: each row of R87 is the equation of `Player.start` for its state and policy. -/
theorem startActsByStateAndPolicy : Obligations.StartActsByStateAndPolicy := by
  unfold Obligations.StartActsByStateAndPolicy
  refine ⟨fun s m rest h hn => h.answers rfl (cmdPlayerStart_range _ hn), ?unstaged, ?staged⟩
  case unstaged =>
    intro s m rest p h hp x hold started anew held
    refine ⟨fun ht => h.answers rfl (cmdPlayerStart_trackless hp ht), fun ht hs => ?_⟩
    have zero := Player.fromZero_unstaged p s.pattern hs
    refine ⟨fun hx => ?_, fun hx => ⟨fun hy => ?_, fun hy => ?_⟩,
      fun hy => ⟨fun hx hh => ?_, fun hx hh => ?_, fun hx => ?_, fun hx => ?_⟩⟩
    · exact exec_playerStart h hp ht ((Player.start_rests p s.pattern hx).trans (by rw [zero]))
    · exact exec_playerStart h hp ht ((Player.start_replay p s.pattern hx hy).trans (by rw [zero]))
    · exact exec_playerStart h hp ht (Player.start_ignore p s.pattern hx hy)
    · exact exec_playerStart h hp ht ((Player.start_extend_running p s.pattern hx hy).trans (by rw [hh]))
    · exact exec_playerStart h hp ht ((Player.start_extend_running p s.pattern hx hy).trans (if_pos hh))
    · exact exec_playerStart h hp ht (Player.start_extend_tail p s.pattern hx hy)
    · exact exec_playerStart h hp ht (Player.start_extend_paused p s.pattern hx hy)
  case staged =>
    intro s m rest p st h hp ht hs hx d u e
    have zero := Player.fromZero_staged p s.pattern hs
    have notice := LinkState.posted_stagedNotice s.link p .start (s.players[p].applied st s.pattern)
    have he : (s.players[p].applied st s.pattern).elapsed = e := Player.applied_elapsed_started st s.pattern (by tauto)
    rw [Player.applied_settings, he] at notice
    have outcome : s.players[p].start p s.pattern =
        ((s.players[p].fromZero p s.pattern).1, if s.players[p].state = .armed then .started else .replayed,
          (s.players[p].fromZero p s.pattern).2) := by
      rcases hx with armed | ⟨replay, busy⟩
      · rw [if_pos armed, Player.start_rests p s.pattern (.inr (.inl armed))]
      · have unarmed : s.players[p].state ≠ .armed := by
          rcases busy with h | h | h <;> rw [h] <;> decide
        rw [if_neg unarmed, Player.start_replay p s.pattern busy replay]
    rw [zero] at outcome
    have code : BitVec.ofNat 8 (if s.players[p].state = .armed then StartOutcome.started else .replayed).code =
        if s.players[p].state = .armed then 0 else 1 := by split_ifs <;> rfl
    rw [exec_playerStart h hp ht outcome, startFields_zero rfl, notice, code]
    rfl

/-! ### PLAYER_SETUP: its checks (R91) -/

/-- Checks 2 to 4 of R91 on settings that name no track. -/
theorem State.setupStatus_trackless {s : State} {a : PlayerSetupArgs} (ht : a.settings.track = none) :
    s.setupStatus a =
      if s.players[a.player].state = .idle then if a.settings.holdPoint = none then .ok else .range else .state := by
  unfold State.setupStatus
  rw [PatternMemory.trackOf_none ht, ht]
  cases a.settings.holdPoint <;> simp [holdPointFits]

/-- The same on settings that name a FREE track. -/
theorem State.setupStatus_free {s : State} {a : PlayerSetupArgs} {k : TrackId} (ht : a.settings.track = some k)
    (hk : s.pattern.tracks[k] = none) : s.setupStatus a = .state := by
  unfold State.setupStatus
  rw [PatternMemory.trackOf_some ht, hk, ht]
  rfl

/-- The same on settings that name a track that is not FREE. -/
theorem State.setupStatus_track {s : State} {a : PlayerSetupArgs} {k : TrackId} {t : Track}
    (ht : a.settings.track = some k) (hk : s.pattern.tracks[k] = some t) :
    s.setupStatus a = if ∀ i, a.settings.holdPoint = some i → i + 1 ≤ t.count then .ok else .range := by
  have fits : holdPointFits a.settings.holdPoint (some t) = true ↔
      ∀ i, a.settings.holdPoint = some i → i + 1 ≤ t.count := by
    cases a.settings.holdPoint <;> simp [holdPointFits]
  unfold State.setupStatus
  rw [PatternMemory.trackOf_some ht, hk, ht]
  simp only [fits]
  rfl

/-- Settings that pass all three checks. -/
theorem State.setupStatus_ok {s : State} {a : PlayerSetupArgs}
    (named : ∀ k, a.settings.track = some k → s.pattern.tracks[k] ≠ none)
    (unnamed : a.settings.track = none → s.players[a.player].state = .idle)
    (held : ∀ i, a.settings.holdPoint = some i →
      ∃ k t, a.settings.track = some k ∧ s.pattern.tracks[k] = some t ∧ i + 1 ≤ t.count) : s.setupStatus a = .ok := by
  cases ht : a.settings.track with
  | none =>
    have noHold : a.settings.holdPoint = none := by
      by_contra hh
      obtain ⟨i, hi⟩ := Option.ne_none_iff_exists'.1 hh
      obtain ⟨k, t, hk, -⟩ := held i hi
      exact nomatch ht.symm.trans hk
    rw [State.setupStatus_trackless ht, if_pos (unnamed ht), if_pos noHold]
  | some k =>
    obtain ⟨t, hk⟩ := Option.ne_none_iff_exists'.1 (named k ht)
    rw [State.setupStatus_track ht hk, if_pos]
    intro i hi
    obtain ⟨j, u, hj, hu, hle⟩ := held i hi
    obtain rfl := Option.some.inj (ht.symm.trans hj)
    obtain rfl := Option.some.inj (hk.symm.trans hu)
    exact hle

/-! ### PLAYER_SETUP: what it writes (R92 to R94) -/

theorem PlayerState.stages_iff {x : PlayerState} :
    x.stages = true ↔ x = .armed ∨ x = .running ∨ x = .paused ∨ x = .tail := by
  cases x <;> decide

theorem Player.setupReply_eq (x : Player) : x.setupReply = if x.staged = none then .ok else .replaced := by
  unfold Player.setupReply
  cases x.staged <;> rfl

theorem cmdPlayerSetup_range {m : LinkMsg} (s : State) (h : parsePlayerSetup m.payload = none) :
    cmdPlayerSetup m s = s.answer m .range [] := by
  unfold cmdPlayerSetup
  rw [h]
  rfl

theorem cmdPlayerSetup_refused {m : LinkMsg} {s : State} {a : PlayerSetupArgs} {status : Status}
    (h : parsePlayerSetup m.payload = some a) (hst : s.setupStatus a = status) (hne : status ≠ .ok) :
    cmdPlayerSetup m s = s.answer m status [] := by
  subst hst
  unfold cmdPlayerSetup
  simp only [h]
  rfl

theorem cmdPlayerSetup_stages {m : LinkMsg} {s : State} {a : PlayerSetupArgs} (h : parsePlayerSetup m.payload = some a)
    (hok : s.setupStatus a = .ok) (hs : s.players[a.player].state.stages = true) (ha : a.atWrap = true) :
    cmdPlayerSetup m s =
      (s.setPlayer a.player { s.players[a.player] with staged := some a.settings }).answer m
        s.players[a.player].setupReply [1] := by
  unfold cmdPlayerSetup
  simp only [h, hok, hs, ha]
  rfl

theorem cmdPlayerSetup_applies {m : LinkMsg} {s : State} {a : PlayerSetupArgs} (h : parsePlayerSetup m.payload = some a)
    (hok : s.setupStatus a = .ok) (hs : a.atWrap = false ∨ ¬s.players[a.player].state.stages = true) :
    cmdPlayerSetup m s =
      (s.setPlayer a.player (s.players[a.player].applied a.settings s.pattern)).answer m
        s.players[a.player].setupReply (0 :: (s.players[a.player].applied a.settings s.pattern).stateFields) := by
  have now : (s.players[a.player].state.stages && a.atWrap) = false := by
    rcases hs with hs | hs
    · rw [hs, Bool.and_false]
    · rw [Bool.eq_false_iff.2 hs, Bool.false_and]
  unfold cmdPlayerSetup
  simp only [h, hok, now]
  rfl

/-- Settles O31: the model's status of a PLAYER_SETUP is the first check of R91 that fails; a fit setup is staged or applied,
and what it applies is the equation of `Player.applied` for the player's state. -/
theorem playerSetupAppliesOrStages : Obligations.PlayerSetupAppliesOrStages := by
  unfold Obligations.PlayerSetupAppliesOrStages
  refine ⟨?fit, ?refusals⟩
  case fit =>
    intro s m rest a h hp named unnamed held x d u endless later done
    have hok : s.takeFront.setupStatus a = .ok := State.setupStatus_ok named unnamed held
    have hlater : x.state.stages = true ↔ later := PlayerState.stages_iff
    have reply : x.setupReply = if x.staged = none then .ok else .replaced := x.setupReply_eq
    refine ⟨fun ha hl => ?staged, fun hl => ⟨x.applied a.settings s.pattern, ?applied, Player.applied_settings ..,
      Player.applied_staged .., ?resting, ?idle, ?ended, ?holding, ?armed, ?elapsed, ?moving, ?paused⟩⟩
    case staged =>
      rw [← hlater] at hl
      exact h.writesPlayer rfl ((cmdPlayerSetup_stages hp hok hl ha).trans (by rw [← reply]; rfl))
    case applied =>
      rw [← hlater] at hl
      exact h.writesPlayer rfl ((cmdPlayerSetup_applies hp hok hl).trans (by rw [← reply]; rfl))
    case resting =>
      rintro (hx | hx | hx)
      · simp [Player.applied_idle a.settings s.pattern (.inl hx)]
      · simp [Player.applied_idle a.settings s.pattern (.inr hx)]
      · simp [Player.applied_holding a.settings s.pattern hx]
    case idle => exact fun hx => (congrArg Player.state (Player.applied_idle a.settings s.pattern (.inl hx))).trans hx
    case ended => exact fun hx => (congrArg Player.state (Player.applied_idle a.settings s.pattern (.inr hx))).trans hx
    case holding => exact fun hx => congrArg Player.state (Player.applied_holding a.settings s.pattern hx)
    case armed =>
      intro hx
      rw [Player.applied_armed a.settings s.pattern hx]
      exact ⟨hx, rfl, rfl, rfl⟩
    case elapsed => exact Player.applied_elapsed a.settings s.pattern
    case moving =>
      intro hx
      by_cases he : endless
      · rw [Player.applied_endless a.settings s.pattern hx he]
        simp [he]
      · rw [Player.applied_ending a.settings s.pattern hx he]
        simp only [he, false_or, not_false_iff, true_and, decide_eq_true_eq]
        exact ⟨rfl, trivial⟩
    case paused =>
      intro hx
      rw [Player.applied_paused a.settings s.pattern hx]
      exact ⟨hx, rfl, rfl⟩
  case refusals =>
    intro s m rest h refused
    refine ⟨fun hp => h.answers rfl (cmdPlayerSetup_range _ hp), fun a hp => ?_⟩
    have refuse {status : Status} (hst : s.setupStatus a = status) (hne : status ≠ .ok) : refused status :=
      h.answers rfl (cmdPlayerSetup_refused (s := s.takeFront) hp hst hne)
    refine ⟨fun k ht hk => refuse (State.setupStatus_free ht hk) (by decide), fun ht hs => ?_, fun i hi ht hs => ?_,
      fun i k t hi ht hk hlt => ?_⟩
    · exact refuse (by rw [State.setupStatus_trackless ht, if_neg hs]) (by decide)
    · have holds : a.settings.holdPoint ≠ none := by
        rw [hi]
        exact Option.some_ne_none i
      exact refuse (by rw [State.setupStatus_trackless ht, if_pos hs, if_neg holds]) (by decide)
    · have beyond : ¬∀ j, a.settings.holdPoint = some j → j + 1 ≤ t.count := fun fits => by
        have := fits i hi
        omega
      exact refuse (by rw [State.setupStatus_track ht hk, if_neg beyond]) (by decide)

end Sys2Proof.Machine
end

section
/-! SUPPORT. One device tick of a player, step by step: the hold point, the window, a wrap, the end point and the tail (R80 to
R86). -/

namespace Sys2Proof.Machine

variable {x : Player} {p : PlayerId} {pm : PatternMemory} {t : Track} {r : PlayerTick}

/-! ### The step that a player's state takes -/

theorem PatternMemory.durationOf_track {st : Settings} (h : pm.trackOf st = some t) : pm.durationOf st = t.duration := by
  unfold PatternMemory.durationOf
  rw [h]

theorem Player.tick_running (hs : x.state = .running) (ht : pm.trackOf x.settings = some t) :
    x.tick p pm = x.tickRunning p pm t := by
  unfold Player.tick
  simp only [hs, ht]

theorem Player.tick_paused (hs : x.state = .paused) (ht : pm.trackOf x.settings = some t) : x.tick p pm = x.tickPaused := by
  unfold Player.tick
  simp only [hs, ht]

theorem Player.tick_tail (hs : x.state = .tail) (ht : pm.trackOf x.settings = some t) :
    x.tick p pm = x.tickTail p pm t := by
  unfold Player.tick
  simp only [hs, ht]

/-! ### The hold point and the window (R81, R84) -/

/-- Under EXTEND a player that has not passed its hold point stops at it. -/
theorem Player.tickRunning_holds (hp : x.settings.policy = .extend) (hh : x.holdPassed = false)
    (he : t.holdTime x.settings * 256 ≤ x.elapsed + x.settings.rate) :
    x.tickRunning p pm t =
      { PlayerTick.plain
          { x with
            state := .paused
            elapsed := t.holdTime x.settings * 256
            windowLeft := some x.settings.window
            holdPassed := true } with
        paused := true } := if_pos ⟨hp, hh, he⟩

/-- A player with no hold point before it goes on to the steps of the wrap and the end. -/
theorem Player.tickRunning_goesOn (h : x.settings.policy = .extend → x.holdPassed = true) :
    x.tickRunning p pm t = x.stepOn p pm t.duration (x.elapsed + x.settings.rate) := by
  refine if_neg ?_
  rintro ⟨hp, hh, -⟩
  exact Bool.false_ne_true (hh.symm.trans (h hp))

theorem Player.tickPaused_expires (h : x.windowLeft = some 1) :
    x.tickPaused = { PlayerTick.plain { x with state := .running, windowLeft := none } with expired := true } := by
  unfold Player.tickPaused
  rw [h]
  rfl

/-! ### A wrap (R80 steps 3 and 4) -/

/-- Under endless LOOP, E past the track's end is reduced into it, and settings that are staged are taken. -/
theorem Player.stepOn_endless {d e : Nat} (hend : x.settings.Endless) (he : d * 256 ≤ e) {y : Player} {ns : List Notice}
    (hy : Player.take { x with elapsed := e % (d * 256) } p .wrap pm = (y, ns)) :
    x.stepOn p pm d e = { PlayerTick.plain y with wrapped := true, early := ns } := by
  unfold Player.stepOn
  rw [Settings.endPoint_eq, if_pos hend]
  simp only [if_pos he, hy]

/-- E, moving from one value to the next, passes a multiple of the track's length below the end point of counted LOOP (R86). -/
def Settings.Crosses (st : Settings) (d e e' : Nat) : Prop :=
  st.mode = .loop ∧ ∃ k, 1 ≤ k ∧ k < st.loops ∧ e < k * d * 256 ∧ k * d * 256 ≤ e'

theorem crossesWrap_iff {c d e e' : Nat} :
    crossesWrap c d e e' = true ↔ ∃ k, 1 ≤ k ∧ k < c ∧ e < k * d * 256 ∧ k * d * 256 ≤ e' := by
  unfold crossesWrap
  rw [decide_eq_true_iff, le_min_iff]
  rcases Nat.eq_zero_or_pos d with rfl | hd
  · simp
  · have pos : 0 < d * 256 := by omega
    simp only [Nat.mul_assoc]
    constructor
    · rintro ⟨h1, h2⟩
      have counted : 0 < c - 1 := (Nat.succ_pos _).trans_le h2
      refine ⟨e / (d * 256) + 1, Nat.le_add_left .., h2.trans_lt (by omega), ?_, ?_⟩
      · exact (Nat.div_lt_iff_lt_mul pos).1 (Nat.lt_succ_self _)
      · exact (Nat.le_div_iff_mul_le pos).1 h1
    · rintro ⟨k, -, hk, h1, h2⟩
      have below : e / (d * 256) < k := (Nat.div_lt_iff_lt_mul pos).2 h1
      have above : k ≤ e' / (d * 256) := (Nat.le_div_iff_mul_le pos).2 h2
      omega

/-- The model's test for a wrap of counted LOOP. -/
theorem Settings.crosses_iff {st : Settings} {d e e' : Nat} :
    (decide (st.mode = .loop) && crossesWrap st.loops d e e') = true ↔ st.Crosses d e e' := by
  rw [Bool.and_eq_true, decide_eq_true_iff, crossesWrap_iff]
  rfl

theorem Player.stepOn_crosses {d e : Nat} (hc : x.settings.Crosses d x.elapsed e) :
    x.stepOn p pm d e = Player.stepWrap { x with elapsed := e } p pm := by
  have counted : ¬x.settings.Endless := by
    rintro ⟨-, h0⟩
    obtain ⟨-, k, -, hk, -⟩ := hc
    omega
  unfold Player.stepOn
  rw [Settings.endPoint_eq, if_neg counted]
  exact if_pos (Settings.crosses_iff.2 hc)

theorem Player.stepOn_uncrossed {d e : Nat} (hend : ¬x.settings.Endless) (hc : ¬x.settings.Crosses d x.elapsed e) :
    x.stepOn p pm d e = Player.stepEnd { x with elapsed := e } p pm (PlayerTick.plain x) := by
  unfold Player.stepOn
  rw [Settings.endPoint_eq, if_neg hend]
  exact if_neg fun crossed => hc (Settings.crosses_iff.1 crossed)

/-- In its last round, and outside LOOP, E crosses no wrap. -/
theorem Player.stepOn_lastRound {d e : Nat} (hend : ¬x.settings.Endless)
    (hlast : x.settings.mode = .loop → (x.settings.loops - 1) * d * 256 ≤ x.elapsed) :
    x.stepOn p pm d e = Player.stepEnd { x with elapsed := e } p pm (PlayerTick.plain x) := by
  refine Player.stepOn_uncrossed hend ?_
  rintro ⟨hm, k, -, hk, hlt, -⟩
  have round : k * d * 256 ≤ (x.settings.loops - 1) * d * 256 := by gcongr; omega
  exact absurd hlt (round.trans (hlast hm)).not_gt

theorem Player.stepWrap_unstaged (hr : x.state = .running) (hs : x.staged = none) :
    x.stepWrap p pm = x.stepEnd p pm { PlayerTick.plain x with wrapped := true } := by
  unfold Player.stepWrap
  simp only [Player.take_unstaged p pm hs, hr, if_true]
  rfl

/-! ### The end point and the tail (R80 step 5, R82, R83) -/

theorem Player.stepEnd_endless (hend : x.settings.Endless) : x.stepEnd p pm r = { r with player := x } := by
  unfold Player.stepEnd
  rw [Settings.endPoint_eq, if_pos hend]

theorem Player.stepEnd_before (h : x.elapsed < x.settings.lastPoint (pm.durationOf x.settings) * 256) :
    x.stepEnd p pm r = { r with player := x } := by
  by_cases hend : x.settings.Endless
  · exact Player.stepEnd_endless hend
  · unfold Player.stepEnd
    rw [Settings.endPoint_eq, if_neg hend]
    exact if_neg h.not_ge

/-- Settings just taken that leave a player RUNNING leave its end point ahead of it. -/
theorem Player.stepEnd_applied {st : Settings} (h : x.state = .running ∨ x.state = .tail)
    (hr : (x.applied st pm).state = .running) :
    (x.applied st pm).stepEnd p pm r = { r with player := x.applied st pm } := by
  by_cases hend : st.Endless
  · exact Player.stepEnd_endless (by rwa [Player.applied_settings])
  · refine Player.stepEnd_before ?_
    rw [Player.applied_ending st pm h hend] at hr ⊢
    dsimp only at hr ⊢
    split_ifs at hr with hlt
    exact (min_le_left _ _).trans_lt hlt

/-- Settings just taken that leave a player in TAIL leave it at its end point. -/
theorem Player.applied_atEnd {st : Settings} (h : x.state = .running ∨ x.state = .tail)
    (ht : (x.applied st pm).state = .tail) :
    ¬st.Endless ∧ (x.applied st pm).elapsed = st.lastPoint (pm.durationOf st) * 256 := by
  by_cases hend : st.Endless
  · rw [Player.applied_endless st pm h hend] at ht
    exact nomatch ht
  · rw [Player.applied_ending st pm h hend] at ht ⊢
    dsimp only at ht ⊢
    split_ifs at ht with hlt
    exact ⟨hend, min_eq_right (Nat.le_of_not_lt hlt)⟩

/-- A wrap of counted LOOP at which settings are taken: whatever state they leave, neither the end point nor the tail is
judged at that tick (log 36). -/
theorem Player.stepWrap_staged {st : Settings} (hr : x.state = .running) (hs : x.staged = some st) :
    x.stepWrap p pm =
      { PlayerTick.plain (x.applied st pm) with
        wrapped := true
        early := stagedNotice p .wrap (x.applied st pm) } := by
  unfold Player.stepWrap
  rw [Player.take_staged p pm hs]
  dsimp only
  split_ifs with running
  · exact Player.stepEnd_applied (.inl hr) running
  · rfl

/-- At its end point a player enters TAIL and takes what is staged; while that leaves it in TAIL, its tail is checked. -/
theorem Player.stepEnd_enters (hend : ¬x.settings.Endless)
    (h : x.settings.lastPoint (pm.durationOf x.settings) * 256 ≤ x.elapsed) {y : Player} {ns : List Notice}
    (hy : Player.take { x with state := .tail } p .tailEntry pm = (y, ns)) :
    x.stepEnd p pm r =
      if y.state = .tail then y.tailCheck p pm { r with player := y, tailEntered := true, early := r.early ++ ns }
      else { r with player := y, tailEntered := true, early := r.early ++ ns } := by
  unfold Player.stepEnd
  simp only [Settings.endPoint_eq, if_neg hend, if_pos h, hy]

theorem Player.tailCheck_within
    (h : x.elapsed < (x.settings.lastPoint (pm.durationOf x.settings) + x.settings.tail) * 256) :
    x.tailCheck p pm r = { r with player := x } := by
  unfold Player.tailCheck
  rw [Settings.endPoint_eq]
  split_ifs
  · rfl
  · exact if_neg h.not_ge

theorem Player.tailCheck_over (hend : ¬x.settings.Endless)
    (h : (x.settings.lastPoint (pm.durationOf x.settings) + x.settings.tail) * 256 ≤ x.elapsed) :
    x.tailCheck p pm r = x.finish p pm r := by
  unfold Player.tailCheck
  rw [Settings.endPoint_eq, if_neg hend]
  exact if_pos h

/-- A player in TAIL that its track has not outgrown has its tail checked. -/
theorem Player.tickTail_checks (hend : ¬x.settings.Endless)
    (h : x.settings.lastPoint t.duration * 256 ≤ x.elapsed + x.settings.rate) :
    x.tickTail p pm t =
      Player.tailCheck { x with elapsed := x.elapsed + x.settings.rate } p pm
        (PlayerTick.plain { x with elapsed := x.elapsed + x.settings.rate }) := by
  unfold Player.tickTail
  simp only [Settings.endPoint_eq, if_neg hend, if_neg h.not_gt]

/-! ### The end (R82, R83, R95) -/

/-- The state in which a player's timeline leaves it (R83). -/
def Settings.finalState (st : Settings) : PlayerState := if st.mode = .holdLast then .holding else .ended

/-- A player in the state in which its timeline leaves it. -/
def Player.atEnd (x : Player) : Player := { x with state := x.settings.finalState }

/-- That player after it has taken settings there: they replace the old ones, and a HOLDING player stays in HOLDING under
HOLD_LAST alone (R92). -/
def Player.atEndUnder (x : Player) (st : Settings) : Player :=
  { x with
    settings := st
    staged := none
    state := if x.settings.finalState = .holding ∧ st.mode = .holdLast then .holding else .ended }

theorem Player.atEnd_applied (x : Player) (st : Settings) (pm : PatternMemory) :
    x.atEnd.applied st pm = x.atEndUnder st := by
  unfold Player.atEndUnder
  by_cases hm : x.settings.mode = .holdLast
  · have final : x.settings.finalState = .holding := if_pos hm
    rw [Player.applied_holding st pm (show x.atEnd.state = .holding from final), final]
    simp [Player.atEnd]
  · have final : x.settings.finalState = .ended := if_neg hm
    rw [Player.applied_idle st pm (.inr (show x.atEnd.state = .ended from final)), final]
    simp [Player.atEnd, final]

theorem Player.finish_eq (x : Player) (p : PlayerId) (pm : PatternMemory) (r : PlayerTick) :
    x.finish p pm r =
      { r with
        player := (x.atEnd.take p .atEnd pm).1
        ended := true
        endNotice := endNoticeOf p x.atEnd
        late := (x.atEnd.take p .atEnd pm).2 } := rfl

theorem Player.finish_unstaged (hs : x.staged = none) :
    x.finish p pm r = { r with player := x.atEnd, ended := true, endNotice := endNoticeOf p x.atEnd, late := [] } := by
  rw [Player.finish_eq, Player.take_unstaged (x := x.atEnd) p pm hs]

theorem Player.finish_staged {st : Settings} (hs : x.staged = some st) :
    x.finish p pm r =
      { r with
        player := x.atEndUnder st
        ended := true
        endNotice := endNoticeOf p x.atEnd
        late := stagedNotice p .atEnd (x.atEndUnder st) } := by
  rw [Player.finish_eq, Player.take_staged (x := x.atEnd) p pm hs, Player.atEnd_applied]

/-- What a player's end posts, as the statements write it (R83; log 15). -/
theorem LinkState.posted_endNoticeOf (k : LinkState) (p : PlayerId) (y : Player) :
    k.posted (endNoticeOf p y) =
      if y.settings.endNotice then
        k.post .playerEnd
          [BitVec.ofNat 8 p.val, BitVec.ofNat 8 (y.settings.track.elim 0 Fin.val), if y.state = .holding then 1 else 0,
            BitVec.ofNat 8 (y.elapsed / 16777216), BitVec.ofNat 8 (y.elapsed / 65536), BitVec.ofNat 8 (y.elapsed / 256),
            BitVec.ofNat 8 y.elapsed]
      else k := by
  have code : BitVec.ofNat 8 y.state.endCode = if y.state = .holding then 1 else 0 := by cases y.state <;> rfl
  unfold endNoticeOf
  rw [← code]
  split_ifs <;> rfl

end Sys2Proof.Machine
end

section
/-! HOLD_POINT_REACHED, WINDOW_EXPIRY and WRAP as the statements write them. -/

namespace Sys2Proof.Machine

/-- Settles O34: the tick of a player at its hold point, and that of a PAUSED one whose window runs out. -/
theorem playersPauseAtTheHoldPoint : Obligations.PlayersPauseAtTheHoldPoint := by
  unfold Obligations.PlayersPauseAtTheHoldPoint
  intro s p t hm hn ht x ticked
  refine ⟨fun i hs hp hh hi he => ?_, fun hs hw => ?_⟩
  · have hold : t.holdTime x.settings = t.times.getD i 0 := by
      unfold Track.holdTime
      rw [hi]
      rfl
    have tick := (Player.tick_running (p := p) hs ht).trans (Player.tickRunning_holds hp hh (by rwa [hold]))
    rw [hold] at tick
    exact congrArg _ (State.aheadPlayer (f := PlayerTick.paused) hm hn tick rfl rfl)
  · have tick := (Player.tick_paused (p := p) hs ht).trans (Player.tickPaused_expires hw)
    exact congrArg _ (State.aheadPlayer (f := PlayerTick.expired) hm hn tick rfl rfl)

/-- Settles O35: the steps of the wrap in the tick of a RUNNING player under LOOP, with nothing staged and with a take. -/
theorem wrapReducesOrKeepsElapsed : Obligations.WrapReducesOrKeepsElapsed := by
  unfold Obligations.WrapReducesOrKeepsElapsed
  intro s p t hm hn ht x e ticked taken crossed hs hloop hx
  have tick : x.tick p s.pattern = x.stepOn p s.pattern t.duration e :=
    (Player.tick_running hs ht).trans (Player.tickRunning_goesOn hx)
  have lastPoint : x.settings.lastPoint (s.pattern.durationOf x.settings) = x.settings.loops * t.duration := by
    rw [PatternMemory.durationOf_track ht]
    exact if_pos hloop
  let reduced : Player := { x with elapsed := e % (t.duration * 256) }
  let kept : Player := { x with elapsed := e }
  refine ⟨fun hst => ⟨fun h0 he => ?_, fun hc he => ?_⟩, fun st hst => ?_⟩
  · rw [Player.stepOn_endless ⟨hloop, h0⟩ he (Player.take_unstaged (x := reduced) p _ hst _)] at tick
    exact congrArg _ (State.aheadPlayer (f := PlayerTick.wrapped) hm hn tick rfl rfl)
  · rw [Player.stepOn_crosses ⟨hloop, hc⟩, Player.stepWrap_unstaged (x := kept) hs hst,
      Player.stepEnd_before (x := kept) (by rwa [lastPoint])] at tick
    exact congrArg _ (State.aheadPlayer (f := PlayerTick.wrapped) hm hn tick rfl rfl)
  · have notice (y : Player) := LinkState.posted_stagedNotice s.link p .wrap (y.applied st s.pattern)
    simp only [Player.applied_settings] at notice
    refine ⟨fun h0 he => ?_, fun hc => ?_⟩
    · rw [Player.stepOn_endless ⟨hloop, h0⟩ he (Player.take_staged (x := reduced) p _ hst _)] at tick
      have ahead := State.aheadPlayer (ch := Choices.default) (f := PlayerTick.wrapped) hm hn tick rfl rfl
      exact congrArg _ (ahead.trans (by simp only [notice]; rfl))
    · rw [Player.stepOn_crosses ⟨hloop, hc⟩, Player.stepWrap_staged (x := kept) hs hst] at tick
      have ahead := State.aheadPlayer (ch := Choices.default) (f := PlayerTick.wrapped) hm hn tick rfl rfl
      exact congrArg _ (ahead.trans (by simp only [notice]; rfl))

end Sys2Proof.Machine
end

section
/-! SUPPORT. What TAIL_ENTRY and TAIL_RUN_OUT make of a player's tick, and how a player's end reaches the link and the trigger
unit (R82, R83, R95). -/

namespace Sys2Proof.Machine

/-! ### A tick that enters the tail or the end -/

section
variable {x : Player} {p : PlayerId} {pm : PatternMemory} {t : Track} {r : PlayerTick}

/-- A RUNNING player at its end point, with nothing staged, comes to its tail check whether or not E crosses a wrap. -/
theorem Player.tick_tailChecks (hs : x.state = .running) (hst : x.staged = none) (ht : pm.trackOf x.settings = some t)
    (hx : x.settings.policy = .extend → x.holdPassed = true) (hend : ¬x.settings.Endless)
    (he : x.settings.lastPoint t.duration * 256 ≤ x.elapsed + x.settings.rate) :
    ∃ wrapped, x.tick p pm =
      Player.tailCheck { x with state := .tail, elapsed := x.elapsed + x.settings.rate } p pm
        ⟨{ x with state := .tail, elapsed := x.elapsed + x.settings.rate }, wrapped, false, false, true, false, [], [],
          []⟩ := by
  let y : Player := { x with elapsed := x.elapsed + x.settings.rate }
  have enters (r : PlayerTick) := Player.stepEnd_enters (x := y) (p := p) (pm := pm) (r := r) hend
    (by rwa [PatternMemory.durationOf_track ht]) (Player.take_unstaged (x := { y with state := .tail }) p pm hst .tailEntry)
  rw [Player.tick_running hs ht, Player.tickRunning_goesOn hx]
  by_cases hc : x.settings.Crosses t.duration x.elapsed (x.elapsed + x.settings.rate)
  · exact ⟨true, (Player.stepOn_crosses hc).trans ((Player.stepWrap_unstaged (x := y) hs hst).trans (enters _))⟩
  · exact ⟨false, (Player.stepOn_uncrossed hend hc).trans (enters _)⟩

/-- A RUNNING player that takes settings at its end point, in its last round. -/
theorem Player.tick_takesAtTailEntry {st : Settings} (hs : x.state = .running) (hst : x.staged = some st)
    (ht : pm.trackOf x.settings = some t) (hx : x.settings.policy = .extend → x.holdPassed = true)
    (hend : ¬x.settings.Endless) (he : x.settings.lastPoint t.duration * 256 ≤ x.elapsed + x.settings.rate)
    (hlast : x.settings.mode = .loop → (x.settings.loops - 1) * t.duration * 256 ≤ x.elapsed) {y : Player}
    (hy : Player.applied { x with state := .tail, elapsed := x.elapsed + x.settings.rate } st pm = y) :
    let r : PlayerTick := ⟨y, false, false, false, true, false, stagedNotice p .tailEntry y, [], []⟩
    x.tick p pm = if y.state = .tail then y.tailCheck p pm r else r := by
  intro r
  subst hy
  let y : Player := { x with elapsed := x.elapsed + x.settings.rate }
  rw [Player.tick_running hs ht, Player.tickRunning_goesOn hx, Player.stepOn_lastRound hend hlast]
  exact Player.stepEnd_enters (x := y) hend (by rwa [PatternMemory.durationOf_track ht])
    (Player.take_staged (x := { y with state := .tail }) p pm hst .tailEntry)

/-- Settings taken at the tail entry that leave the player before its end. -/
theorem Player.tick_takesAndStays {st : Settings} (hs : x.state = .running) (hst : x.staged = some st)
    (ht : pm.trackOf x.settings = some t) (hx : x.settings.policy = .extend → x.holdPassed = true)
    (hend : ¬x.settings.Endless) (he : x.settings.lastPoint t.duration * 256 ≤ x.elapsed + x.settings.rate)
    (hlast : x.settings.mode = .loop → (x.settings.loops - 1) * t.duration * 256 ≤ x.elapsed) {y : Player}
    (hy : Player.applied { x with state := .tail, elapsed := x.elapsed + x.settings.rate } st pm = y)
    (hstays : y.state = .running ∨ y.state = .tail ∧ st.tail ≠ 0) :
    x.tick p pm = ⟨y, false, false, false, true, false, stagedNotice p .tailEntry y, [], []⟩ := by
  refine (Player.tick_takesAtTailEntry hs hst ht hx hend he hlast hy).trans ?_
  split_ifs with tail
  · subst hy
    obtain ⟨-, atPoint⟩ := Player.applied_atEnd (.inr rfl) tail
    have more : 0 < st.tail := by
      rcases hstays with running | ⟨-, more⟩
      · exact PlayerState.noConfusion (running.symm.trans tail)
      · exact Nat.pos_of_ne_zero more
    refine Player.tailCheck_within ?_
    rw [Player.applied_settings, atPoint]
    gcongr
    exact Nat.lt_add_of_pos_right more
  · rfl

/-- Settings taken at the tail entry that leave the player in TAIL with a tail of 0: it ends at that tick. -/
theorem Player.tick_takesAndEnds {st : Settings} (hs : x.state = .running) (hst : x.staged = some st)
    (ht : pm.trackOf x.settings = some t) (hx : x.settings.policy = .extend → x.holdPassed = true)
    (hend : ¬x.settings.Endless) (he : x.settings.lastPoint t.duration * 256 ≤ x.elapsed + x.settings.rate)
    (hlast : x.settings.mode = .loop → (x.settings.loops - 1) * t.duration * 256 ≤ x.elapsed) {y : Player}
    (hy : Player.applied { x with state := .tail, elapsed := x.elapsed + x.settings.rate } st pm = y)
    (htail : y.state = .tail) (h0 : st.tail = 0) :
    x.tick p pm =
      ⟨y.atEnd, false, false, false, true, true, stagedNotice p .tailEntry y, endNoticeOf p y.atEnd, []⟩ := by
  refine (Player.tick_takesAtTailEntry hs hst ht hx hend he hlast hy).trans ?_
  subst hy
  obtain ⟨ending, atPoint⟩ := Player.applied_atEnd (.inr rfl) htail
  rw [if_pos htail, Player.tailCheck_over, Player.finish_unstaged (Player.applied_staged ..)]
  · rwa [Player.applied_settings]
  · rw [Player.applied_settings, h0]
    exact atPoint.ge

/-- A player whose E is past its tail finishes, from RUNNING with nothing staged or from TAIL. -/
theorem Player.tick_runsOut (hs : x.state = .running ∧ x.staged = none ∨ x.state = .tail)
    (ht : pm.trackOf x.settings = some t) (hx : x.settings.policy = .extend → x.holdPassed = true)
    (hend : ¬x.settings.Endless)
    (he : (x.settings.lastPoint t.duration + x.settings.tail) * 256 ≤ x.elapsed + x.settings.rate) :
    ∃ r : PlayerTick, r.early = [] ∧ (x.state = .running → r.tailEntered = true) ∧
      x.tick p pm = Player.finish { x with state := .tail, elapsed := x.elapsed + x.settings.rate } p pm r := by
  have past : x.settings.lastPoint t.duration * 256 ≤ x.elapsed + x.settings.rate :=
    (Nat.mul_le_mul_right 256 (Nat.le_add_right _ _)).trans he
  let y : Player := { x with state := .tail, elapsed := x.elapsed + x.settings.rate }
  have finishes (r : PlayerTick) := Player.tailCheck_over (x := y) (p := p) (pm := pm) (r := r) hend
    (by rw [PatternMemory.durationOf_track ht]; exact he)
  rcases hs with ⟨running, unstaged⟩ | tail
  · obtain ⟨wrapped, tick⟩ := Player.tick_tailChecks (p := p) running unstaged ht hx hend past
    exact ⟨_, rfl, fun _ => rfl, tick.trans (finishes _)⟩
  · have same : { x with elapsed := x.elapsed + x.settings.rate } = y := by
      unfold y
      rw [← tail]
    have tick := (Player.tick_tail (p := p) tail ht).trans (Player.tickTail_checks hend past)
    rw [same] at tick
    exact ⟨_, rfl, fun running => PlayerState.noConfusion (running.symm.trans tail), tick.trans (finishes _)⟩

end

/-! ### The part after a player's tick -/

variable {s : State} {p : PlayerId}

/-- The part after a player's part of the coming tick is taken, with this player and this link. -/
def State.playerTicked (s : State) (p : PlayerId) (y : Player) (link : LinkState) : State :=
  { s with
    players := s.players.put p y
    link := link
    clocks := { s.clocks with
                now := max s.clocks.now s.clocks.deviceDue
                taken := .player p :: s.clocks.taken } }

/-- The part after a player's end has reached the trigger unit and the link, in one order or the other (R83). -/
def State.playerEnded (s : State) (p : PlayerId) (y : Player) (eventFirst : Bool) (before : LinkState)
    (tells : LinkState → LinkState) : State :=
  if eventFirst then
    { ((s.playerTicked p y before).applyEvent (sourcePlayerEnd p)) with
      link := tells ((s.playerTicked p y before).applyEvent (sourcePlayerEnd p)).link }
  else (s.playerTicked p y (tells before)).applyEvent (sourcePlayerEnd p)

/-- Where no binding answers, the order of notice and event does not show. -/
theorem State.playerEnded_unanswered (h : ∀ i : BindingId, s.answering (sourcePlayerEnd p) i = none) (y : Player)
    (eventFirst : Bool) (before : LinkState) (tells : LinkState → LinkState) :
    s.playerEnded p y eventFirst before tells = s.playerTicked p y (tells before) := by
  have quiet (link : LinkState) :
      (s.playerTicked p y link).applyEvent (sourcePlayerEnd p) = s.playerTicked p y link :=
    State.applyEvent_none (s := s.playerTicked p y link) h
  unfold State.playerEnded
  rw [quiet, quiet, ite_eq_right_iff]
  exact fun _ => rfl

theorem State.coming_moving (hm : s.power.state = .active ∨ s.power.state = .waking) (p : PlayerId) :
    s.coming p = s.players[p].tick p s.pattern := if_pos (State.moving_of hm)

/-- A tick that ends its player: the event goes first only where nothing is posted for a take. -/
theorem State.postEnd_ends {r : PlayerTick} (h : r.ended = true) (y : Player) (link : LinkState) (ch : Choices) :
    (s.playerTicked p y link).postEnd p r ch =
      s.playerEnded p y (ch.triggerFirst && r.late.isEmpty) link fun k => (k.posted r.endNotice).posted r.late := by
  unfold State.postEnd State.playerEnded
  rw [if_pos h]
  split_ifs with first
  · have nothing : r.late = [] := List.isEmpty_iff.1 (Bool.and_eq_true_iff.1 first).2
    rw [State.postAll_eq, nothing]
    rfl
  · rw [State.postAll_eq, State.postAll_eq]
    rfl

theorem State.tickPlayer_eq {ch : Choices} {r : PlayerTick} (hm : s.moving = true)
    (hr : s.players[p].tick p s.pattern = r) :
    s.tickPlayer p ch = State.postEnd ((s.setPlayer p r.player).postAll r.early) p r ch := by
  subst hr
  exact if_pos hm

/-- All that a step which names an outcome of a player does when the coming tick has that outcome and ends the player. -/
theorem State.aheadPlayer_ends {ch : Choices} {f : PlayerTick → Bool} {r : PlayerTick}
    (hm : s.power.state = .active ∨ s.power.state = .waking) (ht : .player p ∉ s.clocks.taken)
    (hr : s.players[p].tick p s.pattern = r) (hf : f r = true) (he : r.ended = true) :
    s.ahead (.player p) (f (s.coming p)) (fun t => t.tickPlayer p ch) =
      s.playerEnded p r.player (ch.triggerFirst && r.late.isEmpty) (s.link.posted r.early) fun k =>
        (k.posted r.endNotice).posted r.late := by
  rw [← State.postEnd_ends he]
  refine (State.ahead_due (by rwa [State.coming_moving hm, hr]) ht).trans ((State.tickPlayer_eq (r := r) ?_ ?_).trans ?_)
  · exact State.moving_of hm
  · exact hr
  · rw [State.postAll_eq]
    rfl

end Sys2Proof.Machine
end

section
/-! TAIL_ENTRY and TAIL_RUN_OUT as the statement writes them. -/

namespace Sys2Proof.Machine

variable {s : State} {p : PlayerId} {ch : Choices} {r : PlayerTick} {y : Player}

/-- The step takes the part ahead where the coming tick enters the tail without ending the player. -/
theorem exec_tailEntry {wrapped : Bool} {early : List Notice} (hm : s.power.state = .active ∨ s.power.state = .waking)
    (hn : .player p ∉ s.clocks.taken)
    (tick : s.players[p].tick p s.pattern = ⟨y, wrapped, false, false, true, false, early, [], []⟩) :
    exec (.tailEntry p ch) s = .next (s.playerTicked p y (s.link.posted early)) :=
  congrArg _ (State.aheadPlayer (f := PlayerTick.tailEntered) hm hn tick rfl rfl)

theorem exec_tailEntry_ends (hm : s.power.state = .active ∨ s.power.state = .waking) (hn : .player p ∉ s.clocks.taken)
    (tick : s.players[p].tick p s.pattern = r) (hentered : r.tailEntered = true) (hended : r.ended = true) :
    exec (.tailEntry p ch) s = .next
      (s.playerEnded p r.player (ch.triggerFirst && r.late.isEmpty) (s.link.posted r.early) fun k =>
        (k.posted r.endNotice).posted r.late) :=
  congrArg _ (State.aheadPlayer_ends hm hn tick hentered hended)

theorem exec_tailRunOut (hm : s.power.state = .active ∨ s.power.state = .waking) (hn : .player p ∉ s.clocks.taken)
    (tick : s.players[p].tick p s.pattern = r) (hended : r.ended = true) :
    exec (.tailRunOut p ch) s = .next
      (s.playerEnded p r.player (ch.triggerFirst && r.late.isEmpty) (s.link.posted r.early) fun k =>
        (k.posted r.endNotice).posted r.late) :=
  congrArg _ (State.aheadPlayer_ends hm hn tick hended hended)

theorem stagedNotice_isEmpty (p : PlayerId) (point : TakePoint) (y : Player) :
    (stagedNotice p point y).isEmpty = !y.settings.endNotice := by
  unfold stagedNotice
  cases y.settings.endNotice <;> rfl

/-- Settles O36: the tail and the end of the player's tick with nothing staged, and the takes at TAIL_ENTRY and at END. -/
theorem tailRunsOutIntoTheEndState : Obligations.TailRunsOutIntoTheEndState := by
  unfold Obligations.TailRunsOutIntoTheEndState
  intro s p k t ch hm hn hk htrack x e u final moved ticked bytes tells told acted took hloop hx
  have ht : s.pattern.trackOf x.settings = some t := (PatternMemory.trackOf_some hk).trans htrack
  have hend : ¬x.settings.Endless := fun ⟨hmode, h0⟩ => hloop hmode h0
  let z : Player := { x with state := .tail, elapsed := e }
  have notice : (fun link : LinkState => link.posted (endNoticeOf p z.atEnd)) = tells := by
    funext link
    rw [LinkState.posted_endNoticeOf, show z.atEnd.settings.track = some k from hk]
    rfl
  have taken (link : LinkState) (point : TakePoint) (y : Player) :
      link.posted (stagedNotice p point y) = took y.settings (BitVec.ofNat 8 point.code) y.elapsed link :=
    LinkState.posted_stagedNotice ..
  have runsOut (hs : x.state = .running ∧ x.staged = none ∨ x.state = .tail) (he : (u + x.settings.tail) * 256 ≤ e) :=
    Player.tick_runsOut (p := p) hs ht hx hend he
  have endsUnstaged (hst : x.staged = none) (hs : x.state = .running ∨ x.state = .tail)
      (he : (u + x.settings.tail) * 256 ≤ e) :
      exec (.tailRunOut p ch) s = .next (s.playerEnded p z.atEnd ch.triggerFirst s.link tells) ∧
        (x.state = .running → exec (.tailEntry p ch) s = exec (.tailRunOut p ch) s) := by
    obtain ⟨r, early, entered, tick⟩ := runsOut (hs.imp_left fun h => ⟨h, hst⟩) he
    rw [Player.finish_unstaged (x := z) hst] at tick
    have out := exec_tailRunOut (ch := ch) hm hn tick rfl
    refine ⟨?_, fun running => (exec_tailEntry_ends hm hn tick (entered running) rfl).trans out.symm⟩
    rw [out, early, ← notice]
    simp only [List.isEmpty_nil, Bool.and_true]
    rfl
  have endsStaged {st : Settings} (hst : x.staged = some st) (hs : x.state = .tail) (he : (u + x.settings.tail) * 256 ≤ e) :
      exec (.tailRunOut p ch) s = .next
        (s.playerEnded p (z.atEndUnder st) (ch.triggerFirst && !st.endNotice) s.link fun link =>
          took st 2 e (tells link)) := by
    obtain ⟨r, early, -, tick⟩ := runsOut (.inr hs) he
    rw [Player.finish_staged (x := z) hst] at tick
    rw [exec_tailRunOut hm hn tick rfl, early, ← notice]
    simp only [stagedNotice_isEmpty, taken]
    rfl
  refine ⟨fun hst => ⟨fun hs he he' => ?entry, fun hs he hq => ?unanswered, fun hs he => (endsUnstaged hst hs he).1,
      fun hs he => (endsUnstaged hst (.inl hs) he).2 hs⟩,
    fun st hst => ⟨fun hs he hlast => ?takes, fun hs he hlast => ?takesAndEnds, fun hs he => endsStaged hst hs he,
      fun hs he hq => ?stagedUnanswered⟩⟩
  case entry =>
    obtain ⟨wrapped, tick⟩ := Player.tick_tailChecks (p := p) hs hst ht hx hend he
    rw [Player.tailCheck_within (x := z) (by rw [PatternMemory.durationOf_track ht]; exact he')] at tick
    exact exec_tailEntry hm hn tick
  case unanswered =>
    rw [(endsUnstaged hst hs he).1, State.playerEnded_unanswered hq]
    rfl
  case stagedUnanswered =>
    rw [endsStaged hst hs he, State.playerEnded_unanswered hq]
    rfl
  case takes =>
    intro y hy
    have tick := Player.tick_takesAndStays (p := p) (y := y) hs hst ht hx hend he hlast rfl hy
    have settled : y.settings = st := Player.applied_settings ..
    rw [exec_tailEntry hm hn tick, taken, settled]
    rfl
  case takesAndEnds =>
    intro y hy h0 w
    have tick := Player.tick_takesAndEnds (p := p) (y := y) hs hst ht hx hend he hlast rfl hy h0
    have settled : y.settings = st := Player.applied_settings ..
    have final : y.atEnd = w := by
      unfold w Player.atEnd Settings.finalState
      rw [settled]
    have ends := exec_tailEntry_ends (ch := ch) hm hn tick rfl rfl
    rw [ends]
    simp only [final, List.isEmpty_nil, Bool.and_true, taken, settled, LinkState.posted_endNoticeOf]
    rw [show w.settings = st from settled]
    rfl

end Sys2Proof.Machine
end

section
/-! SUPPORT. What one binding does with an event, and how EVENT_INJECT hands an event to the bindings (R112 to R114). -/

namespace Sys2Proof.Machine

variable {s : State} {p : PlayerId} {l : LayerId}

/-! ### One action at its target (R113) -/

theorem State.act_start (s : State) (p : PlayerId) :
    s.act (.start p) =
      if s.players[p].settings.track = none then (s, some .noTrack)
      else
        ({ s with
           players := s.players.put p (s.players[p].start p s.pattern).1
           link := s.link.posted (s.players[p].start p s.pattern).2.2 }, none) := by
  unfold State.act
  simp only [State.startPlayer_eq, Option.isNone_iff_eq_none]

theorem State.act_arm (s : State) (p : PlayerId) :
    s.act (.arm p) =
      if s.players[p].settings.track = none then (s, some .noTrack)
      else if s.players[p].state = .running ∨ s.players[p].state = .paused ∨ s.players[p].state = .tail then
        (s, some .playerBusy)
      else if s.players[p].state = .armed then (s, none)
      else
        (s.setPlayer p { s.players[p] with state := .armed, elapsed := 0, holdPassed := false, windowLeft := none },
          none) := by
  unfold State.act
  simp only [Option.isNone_iff_eq_none, PlayerState.busy_iff]
  by_cases armed : s.players[p].state = .armed
  · rw [Player.arm_armed armed, State.setPlayer_same, if_pos armed]
  · rw [Player.arm_rests armed, if_neg armed]

theorem State.act_stop (s : State) (p : PlayerId) :
    s.act (.stop p) =
      if s.players[p].settings.track = none then (s, some .noTrack) else (s.setPlayer p s.players[p].stop, none) := by
  unfold State.act
  simp only [Option.isNone_iff_eq_none]

theorem State.act_show_free (h : s.layers[l] = none) : s.act (.show l) = (s, some .layerFree) := by
  unfold State.act
  simp only [h]

theorem State.act_show {x : LayerRec} (h : s.layers[l] = some x) :
    s.act (.show l) = (s.setLayer l (some x.shown), none) := by
  unfold State.act
  simp only [h]

theorem State.act_hide_free (h : s.layers[l] = none) : s.act (.hide l) = (s, some .layerFree) := by
  unfold State.act
  simp only [h]

theorem State.act_hide {x : LayerRec} (h : s.layers[l] = some x) :
    s.act (.hide l) = (s.setLayer l (some x.hidden), none) := by
  unfold State.act
  simp only [h]

/-! ### One binding -/

section
variable {t : State} {n : Tally} {i : BindingId} {b : Binding} {a : BindAction} {c : SkipCause}

theorem State.handBinding_taken (hb : b.action = a) (h : s.act a = (t, none)) :
    s.handBinding n i b = (t, ⟨n.taken + 1, n.skipped⟩) := by
  unfold State.handBinding
  simp only [hb, h]

theorem State.handBinding_skipped (hb : b.action = a) (h : s.act a = (s, some c)) :
    s.handBinding n i b =
      ({ s with
         link := s.link.post .triggerSkipped
           [BitVec.ofNat 8 i.val, BitVec.ofNat 8 b.source.val, BitVec.ofNat 8 a.code, BitVec.ofNat 8 a.target,
             BitVec.ofNat 8 c.code] },
       ⟨n.taken, n.skipped + 1⟩) := by
  subst hb
  unfold State.handBinding
  simp only [h]
  rfl

end

/-! ### The bindings of one event (R112) -/

theorem State.answering_congr {s t : State} (h : t.bindings = s.bindings) (src : SourceId) (i : BindingId) :
    t.answering src i = s.answering src i := by
  unfold State.answering
  rw [h]

/-- The bindings that answer do not change while they act. -/
theorem State.handBinding_bindings (s : State) (n : Tally) (i : BindingId) (b : Binding) :
    (s.handBinding n i b).1.bindings = s.bindings := State.ChangesOnly.handBinding s n i b .bindings (by decide)

/-- Where one binding of a list answers, the event is handed to that one alone. -/
theorem State.handAll_alone {src : SourceId} {i : BindingId} {b : Binding} (h : s.answering src i = some b)
    (only : ∀ j, j ≠ i → s.answering src j = none) (n : Tally) : ∀ {is : List BindingId}, is.Nodup → i ∈ is →
      s.handAll n src is = s.handBinding n i b := by
  intro is
  induction is with
  | nil => exact fun _ hi => absurd hi List.not_mem_nil
  | cons j js ih =>
    intro distinct hi
    obtain ⟨hj, hjs⟩ := List.nodup_cons.1 distinct
    by_cases here : j = i
    · subst here
      rw [State.handAll_hand h]
      refine State.handAll_none fun k hk => ?_
      rw [State.answering_congr (s.handBinding_bindings n j b)]
      exact only k fun same => hj (same ▸ hk)
    · rw [State.handAll_skip (only j here)]
      exact ih hjs ((List.mem_cons.1 hi).resolve_left fun same => here same.symm)

/-- An event does not touch the messages that wait. -/
theorem State.handAll_buffer (s : State) (n : Tally) (src : SourceId) (is : List BindingId) :
    (s.handAll n src is).1.link.buffer = s.link.buffer := by
  have traffic : (s.handAll n src is).1.link = _ := State.ChangesOnly.handAll src is s n .traffic (by decide)
  rw [traffic]

/-! ### EVENT_INJECT (R114) -/

theorem State.Takes.takeFront_eq {kind : Byte} {len : List Byte → Bool} {m : LinkMsg} {rest : List LinkMsg}
    (h : s.Takes kind len m rest) : s.takeFront = { s with link := { s.link with buffer := rest } } := by
  obtain ⟨-, -, hb, -, -⟩ := h
  unfold State.takeFront
  rw [hb]
  rfl

theorem cmdEventInject_range {m : LinkMsg} (s : State) (h : 16 ≤ fieldU8 m.payload 0) :
    cmdEventInject m s = s.answer m .range [] := by
  unfold cmdEventInject
  rw [idOf_out h]
  rfl

/-- The reply of EVENT_INJECT comes after the actions, and counts them. -/
theorem exec_eventInject {m : LinkMsg} {rest : List LinkMsg} {e : Fin 16} {t : State} {n : Tally}
    (h : s.Takes kindEventInject (lenIs 1) m rest) (he : fieldU8 m.payload 0 = e.val)
    (hr : State.handAll { s with link := { s.link with buffer := rest } } ⟨0, 0⟩ (sourceHostEvent e) (List.finRange 32) =
      (t, n)) :
    exec .eventInject s = .next
      { t with link := t.link.answered rest m .ok [BitVec.ofNat 8 n.taken, BitVec.ofNat 8 n.skipped] } := by
  have counted : s.takeFront.applyCounted (sourceHostEvent e) = (t, n) := by
    rw [h.takeFront_eq]
    exact hr
  have buffer : t.link.buffer = rest := by
    have kept := State.handAll_buffer { s with link := { s.link with buffer := rest } } ⟨0, 0⟩ (sourceHostEvent e)
      (List.finRange 32)
    rwa [hr] at kept
  have answered : cmdEventInject m s.takeFront = t.answer m .ok [BitVec.ofNat 8 n.taken, BitVec.ofNat 8 n.skipped] := by
    unfold cmdEventInject
    simp only [idOf_val he, counted]
    rfl
  show Host.Outcome.next (s.dispatch kindEventInject (lenIs 1) false cmdEventInject) = _
  rw [State.dispatch_takes h, answered]
  unfold State.answer
  rw [LinkState.joinReply_eq_answered, buffer]
  rfl

end Sys2Proof.Machine
end

section
/-! EVENT_INJECT and the bindings' actions as the statement writes them. -/

namespace Sys2Proof.Machine

variable {s : State} {m : LinkMsg} {rest : List LinkMsg} {e : Fin 16}

/-- An injected event that no binding answers. -/
theorem exec_eventInject_unanswered (h : s.Takes kindEventInject (lenIs 1) m rest) (he : fieldU8 m.payload 0 = e.val)
    (hq : ∀ i : BindingId, s.answering (sourceHostEvent e) i = none) :
    exec .eventInject s = .next { s with link := s.link.answered rest m .ok [0, 0] } := by
  let t : State := { s with link := { s.link with buffer := rest } }
  rw [exec_eventInject h he (State.handAll_none (s := t) fun i _ => hq i), LinkState.answered_withBuffer]
  rfl

/-- An injected event that one binding answers. -/
theorem exec_eventInject_alone {i : BindingId} {b : Binding} {t : State} {n : Tally}
    (h : s.Takes kindEventInject (lenIs 1) m rest) (he : fieldU8 m.payload 0 = e.val)
    (hb : s.answering (sourceHostEvent e) i = some b)
    (only : ∀ j, j ≠ i → s.answering (sourceHostEvent e) j = none)
    (hr : State.handBinding { s with link := { s.link with buffer := rest } } ⟨0, 0⟩ i b = (t, n)) :
    exec .eventInject s = .next
      { t with link := t.link.answered rest m .ok [BitVec.ofNat 8 n.taken, BitVec.ofNat 8 n.skipped] } :=
  exec_eventInject h he
    ((State.handAll_alone (s := { s with link := { s.link with buffer := rest } }) hb only _ (List.nodup_finRange 32)
      (List.mem_finRange i)).trans hr)

/-- Settles O38: the event is handed down the list of bindings, and each binding's action is one case of `State.act`. -/
theorem injectedEventsReachTheBindings : Obligations.InjectedEventsReachTheBindings := by
  unfold Obligations.InjectedEventsReachTheBindings
  refine ⟨fun s m rest h => ⟨fun hn => h.answers rfl (cmdEventInject_range _ hn), fun e he => exec_eventInject h he rfl⟩,
    fun s src => rfl, fun s n src => rfl, fun s n src i is => ⟨fun b hb hen hsrc => ?_, fun hno => ?_⟩, ?actions, ?alone⟩
  · exact State.handAll_hand (State.answering_eq_some.2 ⟨hb, hen, hsrc⟩)
  · refine State.handAll_skip (Option.eq_none_iff_forall_ne_some.2 fun b hb => ?_)
    obtain ⟨hb, hen, hsrc⟩ := State.answering_eq_some.1 hb
    exact hno b hb hen hsrc
  case actions =>
    intro s n i b took skip
    refine ⟨fun p hp => ?start, fun p hp => ?arm, fun p hp => ?stop, fun l hl => ⟨fun hx => ?_, fun x hx => ?_⟩,
      fun l hl => ⟨fun hx => ?_, fun x hx => ?_⟩⟩
    case start =>
      intro x
      have act := s.act_start p
      split_ifs at act ⊢
      · exact State.handBinding_skipped hp act
      · exact State.handBinding_taken hp act
    case arm =>
      intro x
      have act := s.act_arm p
      split_ifs at act ⊢
      · exact State.handBinding_skipped hp act
      · exact State.handBinding_skipped hp act
      · exact State.handBinding_taken hp act
      · exact State.handBinding_taken hp act
    case stop =>
      intro x
      have act := s.act_stop p
      split_ifs at act ⊢
      · exact State.handBinding_skipped hp act
      · exact State.handBinding_taken hp act
    · exact State.handBinding_skipped hl (State.act_show_free hx)
    · rw [State.handBinding_taken hl (State.act_show hx)]
      unfold LayerRec.shown
      cases x.state <;> rfl
    · exact State.handBinding_skipped hl (State.act_hide_free hx)
    · rw [State.handBinding_taken hl (State.act_hide hx)]
      unfold LayerRec.hidden
      cases x.state <;> rfl
  case alone =>
    intro s m rest e h he
    refine ⟨exec_eventInject_unanswered h he, fun i l x only hb => ?_⟩
    have answers : s.answering (sourceHostEvent e) i = some ⟨true, sourceHostEvent e, .show l⟩ :=
      State.answering_eq_some.2 ⟨hb, rfl, rfl⟩
    let t : State := { s with link := { s.link with buffer := rest } }
    refine ⟨fun hx => ?_, fun hx => ?_⟩
    · rw [exec_eventInject_alone h he answers only (State.handBinding_taken rfl (State.act_show (s := t) hx)),
        State.setLayer_link, LinkState.answered_withBuffer]
      unfold LayerRec.shown
      cases x.state <;> rfl
    · rw [exec_eventInject_alone h he answers only (State.handBinding_skipped rfl (State.act_show_free (s := t) hx))]
      have posted := LinkState.posted_withBuffer [⟨.triggerSkipped,
        [BitVec.ofNat 8 i.val, BitVec.ofNat 8 (38 + e.val), 3, BitVec.ofNat 8 l.val, 2]⟩] rest s.link
      exact congrArg (fun k : LinkState => Host.Outcome.next { s with link := k.answered rest m .ok [0, 1] }) posted |>.trans
        (by rw [LinkState.answered_withBuffer])

end Sys2Proof.Machine
end

section
/-! CAL_WRITE and CAL_RESTORE as the statement writes them (R118, R120 to R122). -/

namespace Sys2Proof.Machine

section

variable {s : State} {m : LinkMsg} {rest : List LinkMsg} {kind : Byte} {len : List Byte → Bool} {c : Instr}
  {body : LinkMsg → State → State}

/-! ### The answer beside the calibration store -/

/-- A command whose own rule writes the calibration store and answers. -/
theorem State.Takes.writesCal {status : Status} {fields : List Byte} {cal : CalStore} (h : s.Takes kind len m rest)
    (hc : exec c s = .next (s.dispatch kind len false body))
    (hb : body m s.takeFront = (s.takeFront.setCal cal).answer m status fields) :
    exec c s = .next { s with cal := cal, link := s.link.answered rest m status fields } := by
  have order : (s.takeFront.setCal cal).answer m status fields = (s.takeFront.answer m status fields).setCal cal := rfl
  rw [hc, State.dispatch_takes h, hb, order, h.answer]
  rfl

/-- A command whose own rule keeps it in dispatch. -/
theorem State.Takes.holds {d : Dispatched} (h : s.Takes kind len m rest)
    (hc : exec c s = .next (s.dispatch kind len false body)) (hb : body m s.takeFront = s.takeFront.hold d) :
    exec c s = .next { s with link := { s.link with buffer := rest, inDispatch := some d } } := by
  rw [hc, State.dispatch_takes h, hb, h.takeFront_eq]
  rfl

theorem checkThat_eq_some {b : Bool} {u : Unit} : checkThat b = some u ↔ b = true := by
  cases b <;> simp [checkThat]

/-! ### CAL_WRITE and CAL_RESTORE (R118, R120 to R122) -/

/-- Every value of a set is in the range of its kind (R118). -/
def CalSetInRange (x : CalSet) : Prop :=
  (∀ c ∈ [x.mRR, x.mRG, x.mRB, x.mGR, x.mGG, x.mGB, x.mBR, x.mBG, x.mBB], -8192 ≤ c ∧ c ≤ 8191) ∧
    (∀ c ∈ [x.kR, x.kG, x.kB], -64 ≤ c ∧ c ≤ 64) ∧ ∀ c ∈ [x.iR, x.iG, x.iB], 1 ≤ c ∧ c ≤ 255

theorem calSetOk_iff {x : CalSet} : calSetOk x = true ↔ CalSetInRange x := by
  simp only [calSetOk, coefficientOk, tempCoefficientOk, currentOk, CalSetInRange, Bool.and_eq_true, decide_eq_true_eq,
    List.forall_mem_cons, List.not_mem_nil, false_imp_iff, implies_true, and_true, and_assoc]

theorem parseCalWrite_ok {p : List Byte} {w : SetId} (hw : fieldU8 p 0 = w.val) (hx : CalSetInRange (calSetAt p)) :
    parseCalWrite p = some (w, calSetAt p) := by
  unfold parseCalWrite
  rw [idOf_val hw, calSetOk_iff.2 hx]
  rfl

theorem parseCalWrite_range {p : List Byte} (h : 8 ≤ fieldU8 p 0 ∨ ¬CalSetInRange (calSetAt p)) :
    parseCalWrite p = none := by
  unfold parseCalWrite
  rcases h with hw | hx
  · rw [idOf_out hw]
    rfl
  · rw [Bool.eq_false_iff.2 (mt calSetOk_iff.1 hx)]
    cases idOf 8 (fieldU8 p 0) <;> rfl

theorem State.Takes.calTarget_write (h : s.Takes kindCalWrite len m rest) :
    calTarget s.cal m = parseCalWrite m.payload := by
  obtain ⟨-, -, -, hk, -⟩ := h
  exact if_pos hk

theorem State.Takes.calTarget_restore (h : s.Takes kindCalRestore len m rest) :
    calTarget s.cal m = (idOf 8 (fieldU8 m.payload 0)).map fun n => (n, s.cal.factory[n]) := by
  obtain ⟨-, -, -, hk, -⟩ := h
  have other : m.kind ≠ kindCalWrite := by
    rw [hk]
    decide
  exact if_neg other

theorem State.calCommand_range (h : calTarget s.cal m = none) : s.calCommand m = s.answer m .range [] := by
  unfold State.calCommand
  rw [h]
  rfl

theorem State.calCommand_some {w : SetId} {x : CalSet} (h : calTarget s.cal m = some (w, x)) :
    s.calCommand m = if s.engine.readsSet w = true then s.hold (.heldSet m) else (s.setWorking w x).answer m .ok [] := by
  unfold State.calCommand
  rw [h]
  rfl

/-- CAL_WRITE and CAL_RESTORE alike: by whether the job in progress reads the set, the write is made or held. -/
theorem State.Takes.writesSetOrWaits {w : SetId} {x : CalSet} (h : s.Takes kind len m rest)
    (hc : exec c s = .next (s.dispatch kind len false State.calCommand)) (ht : calTarget s.cal m = some (w, x)) :
    (s.engine.readsSet w = false →
      exec c s = .next
        { s with cal := { s.cal with working := s.cal.working.put w x }, link := s.link.answered rest m .ok [] }) ∧
    (s.engine.readsSet w = true →
      exec c s = .next { s with link := { s.link with buffer := rest, inDispatch := some (.heldSet m) } }) := by
  have rule : s.takeFront.calCommand m =
      if s.engine.readsSet w = true then s.takeFront.hold (.heldSet m)
      else (s.takeFront.setWorking w x).answer m .ok [] := State.calCommand_some ht
  refine ⟨fun free => h.writesCal hc ?_, fun read => h.holds hc ?_⟩
  · rw [rule, if_neg (Bool.eq_false_iff.1 free)]
    rfl
  · rw [rule, if_pos read]

end

/-- Settles O29: both commands find the set they write from the payload alone, and one rule writes it or holds the command. -/
theorem calibrationWritesOneSetOrWaits : Obligations.CalibrationWritesOneSetOrWaits := by
  unfold Obligations.CalibrationWritesOneSetOrWaits
  refine ⟨fun s m rest => ⟨fun w hw hx => parseCalWrite_ok hw hx, ?writeRange, ?restoreRange⟩,
    fun s m rest w => ⟨?write, ?restore⟩⟩
  case writeRange =>
    exact fun h bad => h.answers rfl (State.calCommand_range (h.calTarget_write.trans (parseCalWrite_range bad)))
  case restoreRange =>
    intro h out
    refine h.answers rfl (State.calCommand_range (h.calTarget_restore.trans ?_))
    rw [idOf_out out]
    rfl
  case write => exact fun x h hp => h.writesSetOrWaits rfl (h.calTarget_write.trans hp)
  case restore =>
    intro h hw
    refine h.writesSetOrWaits rfl (h.calTarget_restore.trans ?_)
    rw [idOf_val hw]
    rfl

end Sys2Proof.Machine
end

section
/-! CURVE_WRITE, DIMMER_SET and BAND_FACTORS as the statement writes them (R126 to R129). -/

namespace Sys2Proof.Machine

section

variable {m : LinkMsg}

/-! ### The curve (R125, R126) -/

theorem parseCurveWrite_ranges {p : List Byte} {first : Nat} {entries : List Nat}
    (h : parseCurveWrite p = some (first, entries)) :
    1 ≤ entries.length ∧ first + entries.length ≤ 64 ∧ ∀ x ∈ entries, x ≤ 1023 := by
  simp only [parseCurveWrite, Option.pure_def, Option.bind_eq_bind, Option.bind_eq_some_iff, checkThat_eq_some] at h
  obtain ⟨_, hrun, _, hentries, heq⟩ := h
  obtain ⟨rfl, rfl⟩ := Prod.mk.inj (Option.some.inj heq)
  obtain ⟨-, hcount, -, hsum⟩ := of_decide_eq_true hrun
  rw [List.length_map, List.length_range]
  exact ⟨hcount, hsum, fun x hx => of_decide_eq_true (List.all_eq_true.1 hentries x hx)⟩

/-- The run is written, and the other entries stay. -/
theorem writeCurve_get (curve : Tab Nat 64) (first : Nat) (entries : List Nat) (i : Fin 64) :
    (writeCurve curve first entries)[i] =
      if first ≤ i.val ∧ i.val < first + entries.length then entries.getD (i.val - first) 0 else curve[i] := by
  have entry : (writeCurve curve first entries)[i] =
      if first ≤ i.val then entries.getD (i.val - first) curve[i] else curve[i] := Vector.getElem_ofFn i.isLt
  rw [entry]
  by_cases hfirst : first ≤ i.val
  · by_cases hlast : i.val < first + entries.length
    · have inside : i.val - first < entries.length := by omega
      rw [if_pos hfirst, if_pos ⟨hfirst, hlast⟩, List.getD_eq_getElem _ _ inside, List.getD_eq_getElem _ _ inside]
    · have past : entries.length ≤ i.val - first := by omega
      rw [if_pos hfirst, if_neg fun run => hlast run.2, List.getD_eq_default _ _ past]
  · rw [if_neg hfirst, if_neg fun run => hfirst run.1]

theorem cmdCurveWrite_range (s : State) (h : parseCurveWrite m.payload = none) :
    cmdCurveWrite m s = s.answer m .range [] := by
  unfold cmdCurveWrite
  rw [h]
  rfl

theorem cmdCurveWrite_ok {first : Nat} {entries : List Nat} (s : State)
    (h : parseCurveWrite m.payload = some (first, entries)) :
    cmdCurveWrite m s = (s.setCal { s.cal with curve := writeCurve s.cal.curve first entries }).answer m .ok [] := by
  unfold cmdCurveWrite
  rw [h]
  rfl

/-! ### The wheel index and the band factors (R127, R128) -/

theorem cmdDimmerSet_range (s : State) (h : 64 ≤ fieldU8 m.payload 0) : cmdDimmerSet m s = s.answer m .range [] := by
  unfold cmdDimmerSet
  rw [idOf_out h]
  rfl

theorem cmdDimmerSet_ok {i : Fin 64} (s : State) (h : fieldU8 m.payload 0 = i.val) :
    cmdDimmerSet m s = (s.setCal { s.cal with wheelIndex := i }).answer m .ok [] := by
  unfold cmdDimmerSet
  rw [idOf_val h]
  rfl

theorem parseBandFactors_eq (p : List Byte) :
    parseBandFactors p =
      if fieldU16 p 0 ≤ 256 ∧ fieldU16 p 2 ≤ 256 ∧ fieldU16 p 4 ≤ 256 then
        some (fieldU16 p 0, fieldU16 p 2, fieldU16 p 4)
      else none := by
  unfold parseBandFactors checkThat
  simp only [decide_eq_true_eq]
  split_ifs <;> rfl

theorem cmdBandFactors_range (s : State)
    (h : 256 < fieldU16 m.payload 0 ∨ 256 < fieldU16 m.payload 2 ∨ 256 < fieldU16 m.payload 4) :
    cmdBandFactors m s = s.answer m .range [] := by
  unfold cmdBandFactors
  rw [parseBandFactors_eq, if_neg (by omega)]
  rfl

theorem cmdBandFactors_ok (s : State) (hday : fieldU16 m.payload 0 ≤ 256) (hdusk : fieldU16 m.payload 2 ≤ 256)
    (hnight : fieldU16 m.payload 4 ≤ 256) :
    cmdBandFactors m s =
      (s.setCal
        { s.cal with
          factorDay := fieldU16 m.payload 0
          factorDusk := fieldU16 m.payload 2
          factorNight := fieldU16 m.payload 4 }).answer m .ok [] := by
  unfold cmdBandFactors
  rw [parseBandFactors_eq, if_pos ⟨hday, hdusk, hnight⟩]
  rfl

end

/-- Settles O30: each command's own rule writes its values into the store and answers, or answers RANGE; the master level is
capped by its formula. -/
theorem levelCommandsWriteTheStore : Obligations.LevelCommandsWriteTheStore := by
  unfold Obligations.LevelCommandsWriteTheStore
  refine ⟨fun c b => ⟨by cases b <;> rfl, Nat.min_le_left ..⟩, fun s m rest => ⟨?curveRange,
    fun first entries hp => parseCurveWrite_ranges hp, ?curve, fun h => ⟨?dimmer, ?dimmerRange⟩,
    fun h => ⟨?factors, ?factorsRange⟩⟩⟩
  case curveRange => exact fun h hp => h.answers rfl (cmdCurveWrite_range _ hp)
  case curve =>
    exact fun first entries h hp => ⟨writeCurve s.cal.curve first entries, writeCurve_get s.cal.curve first entries,
      h.writesCal rfl (cmdCurveWrite_ok _ hp)⟩
  case dimmer => exact fun i hi => h.writesCal rfl (cmdDimmerSet_ok _ hi)
  case dimmerRange => exact fun out => h.answers rfl (cmdDimmerSet_range _ out)
  case factors => exact fun hday hdusk hnight => h.writesCal rfl (cmdBandFactors_ok _ hday hdusk hnight)
  case factorsRange => exact fun out => h.answers rfl (cmdBandFactors_range _ out)

end Sys2Proof.Machine
end

section
/-! SUPPORT. Enabling a lane, dark frames and the end of a lane's last frame: the rules that the lane commands, the end of a sag
and SLEEP rest on (R131, R137, R138, R146, R150). -/

namespace Sys2Proof.Machine

section

variable {s : State} {m : LinkMsg} {rest : List LinkMsg} {kind : Byte} {len : List Byte → Bool} {c : Instr}
  {body : LinkMsg → State → State} {status : Status} {fields : List Byte} {l : LaneId} {y : Lane}

/-! ### The answer beside one lane's record -/

/-- A command whose own rule writes one lane and answers. -/
theorem State.Takes.writesLane (h : s.Takes kind len m rest) (hc : exec c s = .next (s.dispatch kind len false body))
    (hb : body m s.takeFront = (s.takeFront.setLane l y).answer m status fields) :
    exec c s = .next { s with lanes := s.lanes.put l y, link := s.link.answered rest m status fields } := by
  rw [hc, State.dispatch_takes h, hb, State.setLane_answer, h.answer]
  rfl

/-- The same for a command that is served in WAKING too. -/
theorem State.TakesRead.writesLane (h : s.TakesRead kind len m rest)
    (hc : exec c s = .next (s.dispatch kind len true body))
    (hb : body m s.takeFront = (s.takeFront.setLane l y).answer m status fields) :
    exec c s = .next { s with lanes := s.lanes.put l y, link := s.link.answered rest m status fields } := by
  rw [hc, State.dispatch_takesRead h, hb, State.setLane_answer]
  obtain ⟨-, -, hbuffer, -, -⟩ := h
  rw [State.takeFront_answer hbuffer]
  rfl

/-- A command served in WAKING too whose own rule only answers. -/
theorem State.TakesRead.answers (h : s.TakesRead kind len m rest) (hc : exec c s = .next (s.dispatch kind len true body))
    (hb : body m s.takeFront = s.takeFront.answer m status fields) :
    exec c s = .next { s with link := s.link.answered rest m status fields } := by
  rw [hc, State.dispatch_takesRead h, hb]
  obtain ⟨-, -, hbuffer, -, -⟩ := h
  rw [State.takeFront_answer hbuffer]
  rfl

end

section

variable {s : State} {l : LaneId} {x : Lane} {f : Frame}

/-! ### Enabling (R137, R150) -/

/-- The lane as an enable or a resume renews it, in the state that it enters. -/
def Lane.entering (x : Lane) (now : Nat) (entered : LaneState) : Lane :=
  { x.renew now with state := entered, darkOwed := false }

theorem State.enteredState_sag (h : s.sense.supply.state = .sag) : s.enteredState = .paused :=
  if_pos (State.sagging_iff.2 h)

theorem State.enteredState_supplied (h : s.sense.supply.state ≠ .sag) : s.enteredState = .starting :=
  if_neg (mt State.sagging_iff.1 h)

/-- While the supply sags the lane is PAUSED and asks for no job. -/
theorem State.enableLane_sag (h : s.sense.supply.state = .sag) :
    s.enableLane l = s.setLane l (s.lanes[l].entering s.clocks.now .paused) := by
  unfold State.enableLane State.firstRequest
  rw [State.enteredState_sag h, State.setLane_self]
  exact if_neg fun starts => nomatch starts.1

/-- A BUFFERED lane that starts in ACTIVE asks for a job. -/
theorem State.enableLane_asks (h : s.sense.supply.state ≠ .sag) (hb : s.lanes[l].latency = .buffered)
    (hp : s.power.state = .active) :
    s.enableLane l = (s.setLane l (s.lanes[l].entering s.clocks.now .starting)).request l := by
  unfold State.enableLane State.firstRequest
  rw [State.enteredState_supplied h, State.setLane_self]
  exact if_pos ⟨rfl, hb, hp⟩

/-- A DIRECT lane, or one that starts outside ACTIVE, asks for none. -/
theorem State.enableLane_quiet (h : s.sense.supply.state ≠ .sag)
    (hq : s.lanes[l].latency ≠ .buffered ∨ s.power.state ≠ .active) :
    s.enableLane l = s.setLane l (s.lanes[l].entering s.clocks.now .starting) := by
  unfold State.enableLane State.firstRequest
  rw [State.enteredState_supplied h, State.setLane_self]
  exact if_neg fun ⟨_, hb, hp⟩ => hq.elim (absurd hb) (absurd hp)

/-! ### Dark frames (R131, R138, R185) -/

/-- The lane after a dark frame has begun on it at a moment. -/
def Lane.sendDark (x : Lane) (now : Nat) (blanked : Bool) : Lane :=
  { x.beginKnown now blanked x.darkSlots with darkSent := true }

/-- A frame that began at a moment and carries HOLD to the held nodes of a lane and duty 0 to the others. -/
abbrev Frame.IsDark (f : Frame) (x : Lane) (now : Nat) : Prop :=
  f.beganAt = now ∧ f.fed = false ∧ f.slots.length = x.nodeCount ∧
    ∀ p < x.nodeCount, f.slots[p]? = some (some
      (if ∃ r ∈ x.holdSet, r.first ≤ p ∧ p < r.first + r.count then .hold else .colour ⟨0, 0, 0⟩))

/-- Blanking leaves the slots of a dark frame as they are. -/
theorem Lane.darkSlots_blanked (x : Lane) (blanked : Bool) : x.darkSlots.map (blankEntry blanked) = x.darkSlots := by
  unfold Lane.darkSlots
  rw [List.map_map]
  refine List.map_congr_left fun p _ => ?_
  rw [Function.comp_apply]
  split_ifs
  · rfl
  · cases blanked <;> rfl

theorem Lane.darkSlots_getElem? {p : Nat} (h : p < x.nodeCount) :
    x.darkSlots[p]? =
      some (if ∃ r ∈ x.holdSet, r.first ≤ p ∧ p < r.first + r.count then .hold else .colour ⟨0, 0, 0⟩) := by
  unfold Lane.darkSlots
  rw [List.getElem?_map, List.getElem?_range h]
  simp only [heldIn_iff]
  rfl

/-- A dark frame is in flight on the lane; beside it only the records of what is sent change. -/
theorem Lane.sendDark_eq (x : Lane) (now : Nat) (blanked : Bool) :
    ∃ f : Frame, f.IsDark x now ∧
      x.sendDark now blanked =
        { x with
          front := (x.sendDark now blanked).front
          lastSent := (x.sendDark now blanked).lastSent
          sentSinceEnable := true
          frame := some f
          darkSent := true } := by
  have dark (next : Nat) : Frame.IsDark ⟨now, blanked, false, false, false, next, x.darkSlots.map some⟩ x now := by
    refine ⟨rfl, rfl, ?_, fun p hp => ?_⟩
    · simp only [Lane.darkSlots, List.length_map, List.length_range]
    · rw [List.getElem?_map, Lane.darkSlots_getElem? hp]
      rfl
  unfold Lane.sendDark Lane.beginKnown
  rw [Lane.darkSlots_blanked]
  split
  · exact ⟨_, dark x.nodeCount, rfl⟩
  · exact ⟨_, dark 0, rfl⟩

theorem Lane.sendDark_frame (x : Lane) (now : Nat) (blanked : Bool) : (x.sendDark now blanked).frame ≠ none := by
  obtain ⟨f, -, hy⟩ := x.sendDark_eq now blanked
  rw [hy]
  exact Option.some_ne_none f

theorem State.beginDark_sag (h : s.sense.supply.state = .sag) : s.beginDark l = s := if_pos (State.sagging_iff.2 h)

theorem State.beginDark_supplied (h : s.sense.supply.state ≠ .sag) :
    s.beginDark l = s.setLane l (s.lanes[l].sendDark s.clocks.now (s.blanks l)) := by
  unfold State.beginDark
  rw [if_neg (mt State.sagging_iff.1 h)]
  unfold State.beginFrame
  simp only [State.setLane_self, State.setLane_setLane]
  rfl

theorem State.darkNowOrNext_owed (h : s.lanes[l].frame ≠ none) :
    s.darkNowOrNext l = s.setLane l { s.lanes[l] with darkOwed := true } := if_pos (Option.isSome_iff_ne_none.2 h)

theorem State.darkNowOrNext_now (h : s.lanes[l].frame = none) : s.darkNowOrNext l = s.beginDark l := by
  unfold State.darkNowOrNext
  rw [h]
  rfl

theorem State.payDark_unowed (h : s.lanes[l].darkOwed = false) : s.payDark l = s := if_neg (Bool.eq_false_iff.1 h)

theorem State.payDark_owed (h : s.lanes[l].darkOwed = true) :
    s.payDark l = (s.setLane l { s.lanes[l] with darkOwed := false }).beginDark l := if_pos h

/-! ### Stopping (R138) -/

/-- A lane with no frame in flight has no feed to close. -/
theorem Lane.closeFeed_none (h : x.frame = none) : x.closeFeed = x := by
  unfold Lane.closeFeed
  rw [h, Option.map_none, ← h]

theorem Lane.closeFeed_some (h : x.frame = some f) : x.closeFeed = { x with frame := some { f with closed := true } } := by
  unfold Lane.closeFeed
  rw [h]
  rfl

/-- A frame in flight is closed, and with DARK a dark frame is owed. -/
theorem State.stopLane_inFlight (h : s.lanes[l].frame = some f) (dark : Bool) :
    s.stopLane l dark = s.setLane l
      { s.lanes[l] with
        state := .stopping
        frame := some { f with closed := true }
        darkOwed := if dark then true else s.lanes[l].darkOwed } := by
  unfold State.stopLane
  rw [Lane.closeFeed_some h]
  cases dark with
  | false => rfl
  | true =>
    have inFlight : (s.setLane l { s.lanes[l] with state := .stopping, frame := some { f with closed := true } }).lanes[l].frame ≠
        none := by
      rw [State.setLane_self]
      exact Option.some_ne_none _
    refine (State.darkNowOrNext_owed inFlight).trans ?_
    rw [State.setLane_self, State.setLane_setLane]
    rfl

/-- With no frame in flight the lane has none left under KEEP, or while the supply sags. -/
theorem State.stopLane_rests (h : s.lanes[l].frame = none) {dark : Bool} (hd : dark = false ∨ s.sense.supply.state = .sag) :
    s.stopLane l dark = s.setLane l { s.lanes[l] with state := .stopping } := by
  unfold State.stopLane
  rw [Lane.closeFeed_none h]
  cases dark with
  | false => rfl
  | true =>
    have resting : (s.setLane l { s.lanes[l] with state := .stopping }).lanes[l].frame = none := by
      rw [State.setLane_self]
      exact h
    exact (State.darkNowOrNext_now resting).trans (State.beginDark_sag (hd.resolve_left Bool.true_eq_false.mp))

/-- Under DARK the dark frame begins at once where no frame is in flight. -/
theorem State.stopLane_sendsDark (h : s.lanes[l].frame = none) (hs : s.sense.supply.state ≠ .sag) :
    s.stopLane l true = s.setLane l
      (Lane.sendDark { s.lanes[l] with state := .stopping } s.clocks.now (s.blanks l)) := by
  have resting : (s.setLane l { s.lanes[l] with state := .stopping }).lanes[l].frame = none := by
    rw [State.setLane_self]
    exact h
  unfold State.stopLane
  rw [Lane.closeFeed_none h]
  refine (State.darkNowOrNext_now resting).trans ((State.beginDark_supplied (s := s.setLane l _) hs).trans ?_)
  rw [State.setLane_self, State.setLane_setLane]
  rfl

theorem State.stopIfDone_inFlight (h : s.lanes[l].frame ≠ none) : s.stopIfDone l = s := if_neg fun done => h done.2

theorem State.stopIfDone_enabled (h : s.lanes[l].state ≠ .stopping) : s.stopIfDone l = s := if_neg fun done => h done.1

/-- A STOPPING lane with no frame left is DISABLED, and its LANE_DISABLE is answered. -/
theorem State.stopIfDone_answers {m : LinkMsg} (hs : s.lanes[l].state = .stopping) (hf : s.lanes[l].frame = none)
    (hd : s.link.inDispatch = some (.laneDisable m l)) :
    s.stopIfDone l = (s.setLane l { s.lanes[l] with state := .disabled, soloDue := none }).answer m .ok [] := by
  unfold State.stopIfDone
  rw [if_pos ⟨hs, hf⟩]
  simp only [State.setLane_link, hd, if_true]
  rfl

/-! ### The end of a frame (R131, R146) -/

/-- The fault map entry at the poll index with the flags of an answer. -/
def Lane.polledFlags (x : Lane) (answer : BitVec 24) : FaultFlags := x.faults.getD x.poll 0 ||| answerFlags x.poll answer

/-- The lane after the return window of its frame has recorded an answer. -/
def Lane.pastWindow (x : Lane) (answer : BitVec 24) : Lane :=
  { x with frame := none, faults := x.faults.set x.poll (x.polledFlags answer), poll := (x.poll + 1) % x.nodeCount }

/-- The link after the return window: the first flag of an entry is posted. -/
def LinkState.pastWindow (k : LinkState) (l : LaneId) (x : Lane) (answer : BitVec 24) : LinkState :=
  if x.faults.getD x.poll 0 = 0 ∧ x.polledFlags answer ≠ 0 then
    k.post .nodeFault [BitVec.ofNat 8 l.val, BitVec.ofNat 8 x.poll, (x.polledFlags answer).setWidth 8]
  else k

/-- The state at the end of a lane's frame, its answer recorded and the lane's record written. -/
def State.windowOver (s : State) (l : LaneId) (f : Frame) (answer : BitVec 24) (y : Lane) : State :=
  { s with
    lanes := s.lanes.put l y
    link := s.link.pastWindow l s.lanes[l] answer
    clocks := { s.clocks with now := max s.clocks.now (f.beganAt + frameTime s.lanes[l].bitRate s.lanes[l].nodeCount) } }

/-- Recording the answer changes the notices and the LOST flag alone of the link. -/
theorem LinkState.pastWindow_eq (k : LinkState) (l : LaneId) (x : Lane) (answer : BitVec 24) :
    k.pastWindow l x answer =
      { k with notices := (k.pastWindow l x answer).notices, lost := (k.pastWindow l x answer).lost } := by
  unfold LinkState.pastWindow
  split_ifs
  · exact k.post_eq _ _
  · rfl

theorem State.windowOver_lane (f : Frame) (answer : BitVec 24) (y : Lane) : (s.windowOver l f answer y).lanes[l] = y :=
  State.setLane_self s l y

theorem State.windowOver_setLane (f : Frame) (answer : BitVec 24) (y z : Lane) :
    (s.windowOver l f answer y).setLane l z = s.windowOver l f answer z := by
  unfold State.setLane State.windowOver
  rw [Tab.put_put]

/-- Recording an answer at the end of a frame. -/
theorem State.recordAnswer_eq (f : Frame) (answer : BitVec 24) :
    (s.clockTo (s.lanes[l].frameEnd f)).recordAnswer l answer =
      s.windowOver l f answer
        { s.lanes[l] with faults := s.lanes[l].faults.set s.lanes[l].poll (s.lanes[l].polledFlags answer) } := by
  unfold State.recordAnswer State.windowOver LinkState.pastWindow
  by_cases h : s.lanes[l].faults.getD s.lanes[l].poll 0 = 0 ∧ s.lanes[l].polledFlags answer ≠ 0
  · rw [if_pos h]
    exact if_pos h
  · rw [if_neg h]
    exact if_neg h

/-- A frame all of whose slots have been sent ends with its return window; then the lane pays what it owes and stops if it is
done. -/
theorem State.endFrame_sent (h : f.nextSlot = s.lanes[l].nodeCount) (answer : BitVec 24) :
    s.endFrame l f answer = ((s.windowOver l f answer (s.lanes[l].pastWindow answer)).payDark l).stopIfDone l := by
  unfold State.endFrame
  rw [h, Nat.sub_self]
  unfold State.sendSlots
  dsimp only
  rw [State.recordAnswer_eq, State.windowOver_lane, State.windowOver_setLane]
  rfl

end

end Sys2Proof.Machine
end

section
/-! LANE_ENABLE as the statement writes it (R137). -/

namespace Sys2Proof.Machine

section

variable {s : State} {m : LinkMsg} {rest : List LinkMsg} {l : LaneId}

theorem cmdLaneEnable_range (s : State) (h : 4 ≤ fieldU8 m.payload 0) : cmdLaneEnable m s = s.answer m .range [] := by
  unfold cmdLaneEnable
  rw [idOf_out h]
  rfl

theorem cmdLaneEnable_eq (s : State) (hl : fieldU8 m.payload 0 = l.val) :
    cmdLaneEnable m s =
      if s.lanes[l].nodeCount = 0 ∨ s.lanes[l].state ≠ .disabled ∨ s.engine.outstanding l = true then
        s.answer m .state []
      else (s.enableLane l).answer m .ok [BitVec.ofNat 8 s.enteredState.code] := by
  unfold cmdLaneEnable
  rw [idOf_val hl]
  rfl

/-- What an accepted LANE_ENABLE does to its lane and to the engine stands beside its answer. -/
theorem exec_laneEnable_ok {y : Lane} {e : Engine} (h : s.Takes kindLaneEnable (lenIs 1) m rest)
    (hl : fieldU8 m.payload 0 = l.val) (hn : s.lanes[l].nodeCount ≠ 0) (hd : s.lanes[l].state = .disabled)
    (ho : s.engine.outstanding l = false) (hy : s.takeFront.enableLane l = (s.takeFront.setLane l y).setEngine e) :
    exec .laneEnable s = .next
      { s with
        lanes := s.lanes.put l y
        engine := e
        link := s.link.answered rest m .ok [BitVec.ofNat 8 s.enteredState.code] } := by
  have accepted : ¬(s.lanes[l].nodeCount = 0 ∨ s.lanes[l].state ≠ .disabled ∨ s.engine.outstanding l = true) := by
    rw [hd, ho]
    simp only [hn, ne_eq, not_true_eq_false, Bool.false_eq_true, or_self, not_false_eq_true]
  have rule : cmdLaneEnable m s.takeFront =
      ((s.takeFront.answer m .ok [BitVec.ofNat 8 s.enteredState.code]).setLane l y).setEngine e := by
    refine (cmdLaneEnable_eq s.takeFront hl).trans ((if_neg accepted).trans ?_)
    rw [hy]
    rfl
  show Host.Outcome.next (s.dispatch kindLaneEnable (lenIs 1) false cmdLaneEnable) = _
  rw [State.dispatch_takes h, rule, h.answer]
  rfl

end

/-- Settles O42: what enabling does to the lane and to the engine, by the supply, the lane's latency and the engine. -/
theorem laneEnableStartsOrPauses : Obligations.LaneEnableStartsOrPauses := by
  unfold Obligations.LaneEnableStartsOrPauses
  refine ⟨fun s m rest h out => h.answers rfl (cmdLaneEnable_range _ out), ?_⟩
  intro s m rest l h hl x free y enabled
  have hfree : s.engine.outstanding l = false ↔ free := Engine.outstanding_eq_false
  have active : s.power.state = .active := h.2.1
  refine ⟨fun bad => ?refused, fun hn hd hf => ?accepted⟩
  case refused =>
    have bad : s.lanes[l].nodeCount = 0 ∨ s.lanes[l].state ≠ .disabled ∨ s.engine.outstanding l = true := by
      rwa [← Bool.not_eq_false, hfree]
    exact h.answers rfl ((cmdLaneEnable_eq s.takeFront hl).trans (if_pos bad))
  case accepted =>
    have ho := hfree.2 hf
    have enters {e : Engine} {entered : LaneState} (he : s.enteredState = entered)
        (hy : s.takeFront.enableLane l = (s.takeFront.setLane l (y entered)).setEngine e) :
        exec .laneEnable s = enabled entered (BitVec.ofNat 8 entered.code) e := by
      rw [exec_laneEnable_ok h hl hn hd ho hy, he]
    refine ⟨fun sag => ?sag, fun supplied hb => ?direct, fun supplied hb j hj => ?busy, fun supplied hb he => ?idle⟩
    case sag => exact enters (State.enteredState_sag sag) (State.enableLane_sag (s := s.takeFront) sag)
    case direct =>
      have direct : s.lanes[l].latency ≠ .buffered := by
        rw [show s.lanes[l].latency = .direct from hb]
        decide
      exact enters (State.enteredState_supplied supplied)
        (State.enableLane_quiet (s := s.takeFront) supplied (.inl direct))
    case busy =>
      refine enters (State.enteredState_supplied supplied)
        ((State.enableLane_asks (s := s.takeFront) supplied hb active).trans ?_)
      exact State.request_busy (s := s.takeFront.setLane l (y .starting)) ho hj
    case idle =>
      let asked := s.takeFront.setLane l (y .starting)
      have own : asked.lanes[l] = y .starting := State.setLane_self ..
      refine ⟨asked.newJob ⟨l, false⟩, enters (State.enteredState_supplied supplied)
        ((State.enableLane_asks (s := s.takeFront) supplied hb active).trans (State.request_idle (s := asked) he)),
        rfl, rfl, ?_, rfl, ?_⟩
      · exact (congrArg Lane.nodeCount own :)
      · exact (congrArg Lane.holdSet own :)

end Sys2Proof.Machine
end

section
/-! LANE_DISABLE and LANE_DISABLE_COMPLETE as the statement writes them (R138). -/

namespace Sys2Proof.Machine

section

variable {s : State} {m : LinkMsg} {rest : List LinkMsg} {l : LaneId} {dark : Bool}

theorem cmdLaneDisable_range (s : State) (h : parseLaneDisable m.payload = none) :
    cmdLaneDisable m s = s.answer m .range [] := by
  unfold cmdLaneDisable
  rw [h]
  rfl

theorem cmdLaneDisable_disabled (h : parseLaneDisable m.payload = some (l, dark)) (hd : s.lanes[l].state = .disabled) :
    cmdLaneDisable m s = s.answer m .ok [] := by
  unfold cmdLaneDisable
  rw [h]
  exact if_pos hd

theorem cmdLaneDisable_stops {y : Lane} (h : parseLaneDisable m.payload = some (l, dark))
    (hd : s.lanes[l].state ≠ .disabled) (hy : s.stopLane l dark = s.setLane l y) :
    cmdLaneDisable m s = ((s.setLane l y).hold (.laneDisable m l)).stopIfDone l := by
  unfold cmdLaneDisable
  rw [h, ← hy]
  exact if_neg hd

/-- A lane that has no frame left to send is DISABLED at once, and the command is answered. -/
theorem exec_laneDisable_done (h : s.Takes kindLaneDisable (lenIs 2) m rest)
    (hp : parseLaneDisable m.payload = some (l, dark)) (hd : s.lanes[l].state ≠ .disabled)
    (hf : s.lanes[l].frame = none) (hk : dark = false ∨ s.sense.supply.state = .sag) :
    exec .laneDisable s = .next
      { s with
        lanes := s.lanes.put l { s.lanes[l] with state := .disabled, soloDue := none }
        link := s.link.answered rest m .ok [] } := by
  let stopped := (s.takeFront.setLane l { s.lanes[l] with state := .stopping }).hold (.laneDisable m l)
  have own : stopped.lanes[l] = { s.lanes[l] with state := .stopping } := State.setLane_self ..
  have rule : cmdLaneDisable m s.takeFront = stopped.stopIfDone l :=
    cmdLaneDisable_stops (s := s.takeFront) hp hd (State.stopLane_rests (s := s.takeFront) hf hk)
  refine h.writesLane rfl (rule.trans ?_)
  rw [State.stopIfDone_answers (s := stopped) (by rw [own]) (by rw [own]; exact hf) rfl, own]
  show (((s.takeFront.setLane l _).setLane l _).hold (.laneDisable m l)).answer m .ok [] = _
  rw [State.setLane_setLane]
  rfl

/-- A lane that has a frame left to send keeps its LANE_DISABLE in dispatch. -/
theorem exec_laneDisable_waits {y : Lane} (h : s.Takes kindLaneDisable (lenIs 2) m rest)
    (hp : parseLaneDisable m.payload = some (l, dark)) (hd : s.lanes[l].state ≠ .disabled)
    (hy : s.takeFront.stopLane l dark = s.takeFront.setLane l y) (hf : y.frame ≠ none) :
    exec .laneDisable s = .next
      { s with
        lanes := s.lanes.put l y
        link := { s.link with buffer := rest, inDispatch := some (.laneDisable m l) } } := by
  have own : ((s.takeFront.setLane l y).hold (.laneDisable m l)).lanes[l] = y := State.setLane_self ..
  have rule : cmdLaneDisable m s.takeFront = (s.takeFront.setLane l y).hold (.laneDisable m l) := by
    rw [cmdLaneDisable_stops (s := s.takeFront) hp hd hy, State.stopIfDone_inFlight (by rw [own]; exact hf)]
  show Host.Outcome.next (s.dispatch kindLaneDisable (lenIs 2) false cmdLaneDisable) = _
  rw [State.dispatch_takes h, rule, h.takeFront_eq]
  rfl

/-- The end of the last frame of a STOPPING lane, its slots having been sent, answers its LANE_DISABLE. -/
theorem exec_laneDisableComplete_last {f : Frame} {answer : BitVec 24} (hs : s.lanes[l].state = .stopping)
    (hf : s.lanes[l].frame = some f) (hn : f.nextSlot = s.lanes[l].nodeCount) (ho : s.lanes[l].darkOwed = false)
    (hd : s.link.inDispatch = some (.laneDisable m l)) :
    exec (.laneDisableComplete l answer) s = .next
      ((s.windowOver l f answer
        { s.lanes[l].pastWindow answer with state := .disabled, soloDue := none }).answer m .ok []) := by
  let ended := s.windowOver l f answer (s.lanes[l].pastWindow answer)
  have own : ended.lanes[l] = s.lanes[l].pastWindow answer := State.windowOver_lane ..
  have paid : ended.payDark l = ended := State.payDark_unowed (by rw [own]; exact ho)
  have waits : ended.link.inDispatch = some (.laneDisable m l) := by
    rw [show ended.link = _ from s.link.pastWindow_eq l s.lanes[l] answer]
    exact hd
  have ends : exec (.laneDisableComplete l answer) s = .next (s.endFrame l f answer) := by
    show Host.Outcome.next _ = _
    rw [if_pos hs]
    simp only [hf, ho, Bool.false_and, Bool.false_eq_true, if_false]
  rw [ends, State.endFrame_sent hn, paid,
    State.stopIfDone_answers (by rw [own]; exact hs) (by rw [own]; rfl) waits, own, State.windowOver_setLane]

/-- The answer at the end of a last frame changes the queues of the link, its LOST flag and its dispatch alone. -/
theorem LinkState.joinReply_pastWindow (k : LinkState) (x : Lane) (answer : BitVec 24) (r : Reply) :
    (k.pastWindow l x answer).joinReply r =
      { k with
        notices := (k.pastWindow l x answer).notices
        lost := (k.pastWindow l x answer).lost
        replies := if k.replies.length < 8 then k.replies ++ [r] else k.replies
        inDispatch := if k.replies.length < 8 then none else some (.replyWaiting r) } := by
  rw [k.pastWindow_eq l x answer]
  unfold LinkState.joinReply
  split_ifs <;> rfl

end

/-- Settles O43: what is left of the lane's last frame decides whether the command is answered at once, and the end of that frame
answers it. -/
theorem laneDisableWaitsForTheLastFrame : Obligations.LaneDisableWaitsForTheLastFrame := by
  unfold Obligations.LaneDisableWaitsForTheLastFrame
  refine ⟨fun s m rest h hp => h.answers rfl (cmdLaneDisable_range _ hp), ?dispatched, ?complete⟩
  case dispatched =>
    intro s m rest l dark h hp x waits
    refine ⟨fun hd => h.answers rfl (cmdLaneDisable_disabled hp hd), fun hd hf hk => ?done, fun f hd hf => ?closes,
      fun hd hf hk hs => ?begins⟩
    case done => exact exec_laneDisable_done h hp hd hf hk
    case closes =>
      exact exec_laneDisable_waits h hp hd (State.stopLane_inFlight (s := s.takeFront) hf dark) (Option.some_ne_none _)
    case begins =>
      subst hk
      have begins := State.stopLane_sendsDark (s := s.takeFront) hf hs
      obtain ⟨f, ⟨hbegan, -, hlength, hslots⟩, hy⟩ :=
        Lane.sendDark_eq { s.lanes[l] with state := .stopping } s.clocks.now (s.blanks l)
      have inFlight := Lane.sendDark_frame { s.lanes[l] with state := .stopping } s.clocks.now (s.blanks l)
      refine ⟨_, f, exec_laneDisable_waits h hp hd begins inFlight, ?_, ?_, hbegan, hlength, hslots⟩
      · exact congrArg Lane.state hy
      · exact congrArg Lane.frame hy
  case complete =>
    intro s m l f answer x hs hf hn ho hd
    let r : Reply := ⟨m.tag, m.kind + 0x80, [0x00]⟩
    have hlink := s.link.joinReply_pastWindow (l := l) x answer r
    refine ⟨_, exec_laneDisableComplete_last hs hf hn ho hd, ?written, ?answered⟩
    case written =>
      show State.setLink _ ((s.link.pastWindow l x answer).joinReply r) =
        { s with
          lanes := _
          link := { s.link with
                    notices := ((s.link.pastWindow l x answer).joinReply r).notices
                    lost := ((s.link.pastWindow l x answer).joinReply r).lost
                    replies := ((s.link.pastWindow l x answer).joinReply r).replies
                    inDispatch := ((s.link.pastWindow l x answer).joinReply r).inDispatch }
          clocks := _ }
      rw [hlink]
      rfl
    case answered =>
      show if s.link.replies.length < 8 then
          ((s.link.pastWindow l x answer).joinReply r).inDispatch = none ∧
            ((s.link.pastWindow l x answer).joinReply r).replies = s.link.replies ++ [r]
        else
          ((s.link.pastWindow l x answer).joinReply r).inDispatch = some (.replyWaiting r) ∧
            ((s.link.pastWindow l x answer).joinReply r).replies = s.link.replies
      rw [hlink]
      split_ifs <;> exact ⟨rfl, rfl⟩

end Sys2Proof.Machine
end

section
/-! LANE_READ, NODE_FAULTS_READ, NODE_HOLD, GROUP_PERIOD and BUDGET_SET as the statement writes them (R133, R145, R147, R152,
R164). -/

namespace Sys2Proof.Machine

section

variable {m : LinkMsg} {l : LaneId}

/-! ### LANE_READ and NODE_FAULTS_READ (R147, R152) -/

theorem Engine.jobStatus_eq (e : Engine) (l : LaneId) :
    e.jobStatus l = if ∃ j ∈ e.job, j.lane = l then 2 else if ∃ r ∈ e.queue, r.lane = l then 1 else 0 := by
  have working : e.job.any (fun j => decide (j.lane = l)) = true ↔ ∃ j ∈ e.job, j.lane = l := by
    simp only [Option.any_eq_true, decide_eq_true_eq, Option.mem_def]
  have waiting : e.queue.any (fun r => decide (r.lane = l)) = true ↔ ∃ r ∈ e.queue, r.lane = l := by
    simp only [List.any_eq_true, decide_eq_true_eq]
  unfold Engine.jobStatus
  simp only [working, waiting]

theorem flag_eq (b : Bool) : flag b = [if b then 1 else 0] := by cases b <;> rfl

/-- A four-byte field is its two halves, most significant first. -/
theorem u32_eq (n : Nat) : u32 n = u16 (n / 65536) ++ u16 n := by
  unfold u32 u16
  rw [Nat.div_div_eq_div_mul]
  rfl

theorem cmdLaneRead_range (s : State) (h : parseLaneRead m.payload = none) : cmdLaneRead m s = s.answer m .range [] := by
  unfold cmdLaneRead
  rw [h]
  rfl

theorem cmdLaneRead_ok {clear : Bool} (s : State) (h : parseLaneRead m.payload = some (l, clear)) :
    cmdLaneRead m s = (s.setLane l (s.lanes[l].afterRead clear)).answer m .ok (s.laneFields l) := by
  unfold cmdLaneRead
  rw [h]
  rfl

theorem cmdNodeFaultsRead_range (s : State) (h : 4 ≤ fieldU8 m.payload 0) :
    cmdNodeFaultsRead m s = s.answer m .range [] := by
  unfold cmdNodeFaultsRead
  rw [idOf_out h]
  rfl

theorem cmdNodeFaultsRead_ok (s : State) (h : fieldU8 m.payload 0 = l.val) :
    cmdNodeFaultsRead m s =
      (s.setLane l s.lanes[l].clearFaults).answer m .ok (u8 s.lanes[l].nodeCount ++ s.lanes[l].faults.map flagsByte) := by
  unfold cmdNodeFaultsRead
  rw [idOf_val h]
  rfl

/-! ### NODE_HOLD and BUDGET_SET (R145, R164) -/

theorem rangesOk_iff {ranges : List Range} {n : Nat} :
    ranges.all (rangeOk n) = true ↔ ∀ r ∈ ranges, 1 ≤ r.count ∧ r.first + r.count ≤ n := by
  simp only [List.all_eq_true, rangeOk, decide_eq_true_eq]

theorem cmdNodeHold_range (s : State) (h : parseNodeHold m.payload = none) : cmdNodeHold m s = s.answer m .range [] := by
  unfold cmdNodeHold
  rw [h]
  rfl

theorem cmdNodeHold_eq {ranges : List Range} (s : State) (h : parseNodeHold m.payload = some (l, ranges)) :
    cmdNodeHold m s =
      if ranges.all (rangeOk s.lanes[l].nodeCount) = true then
        (s.setLane l { s.lanes[l] with holdSet := ranges }).answer m .ok (u8 (heldCount ranges s.lanes[l].nodeCount))
      else s.answer m .range [] := by
  unfold cmdNodeHold
  rw [h]
  rfl

theorem cmdBudgetSet_range (s : State) (h : parseBudgetSet m.payload = none) : cmdBudgetSet m s = s.answer m .range [] := by
  unfold cmdBudgetSet
  rw [h]
  rfl

theorem cmdBudgetSet_ok {budget derate : Nat} (s : State) (h : parseBudgetSet m.payload = some (l, budget, derate)) :
    cmdBudgetSet m s = (s.setLane l { s.lanes[l] with budget := budget, derate := derate }).answer m .ok [] := by
  unfold cmdBudgetSet
  rw [h]
  rfl

/-! ### GROUP_PERIOD (R133) -/

theorem periodOk_iff {t : Nat} : periodOk t = true ↔ 5000 ≤ t ∧ t ≤ 40000 ∧ t % 100 = 0 := decide_eq_true_iff

theorem State.allFit_iff {s : State} {period : Nat} :
    s.allFit period = true ↔ ∀ l : LaneId, s.lanes[l].timing ≠ .solo →
      Machine.frameTime s.lanes[l].bitRate s.lanes[l].nodeCount ≤ period := by
  simp only [State.allFit, List.all_eq_true, List.mem_finRange, true_imp_iff, Bool.or_eq_true, decide_eq_true_eq]
  refine forall_congr' fun l => ?_
  by_cases solo : s.lanes[l].timing = .solo
  · simp only [solo, true_or, ne_eq, not_true_eq_false, false_imp_iff]
  · simp only [solo, false_or, ne_eq, not_false_eq_true, true_imp_iff, Lane.fits, Lane.frameTime, Lane.period, if_false,
      decide_eq_true_eq]

theorem cmdGroupPeriod_eq (m : LinkMsg) (s : State) :
    cmdGroupPeriod m s =
      if periodOk (fieldU16 m.payload 0) = true then
        if s.allFit (fieldU16 m.payload 0) = true then
          (s.setClocks { s.clocks with groupPeriod := fieldU16 m.payload 0 }).answer m .ok []
        else s.answer m .timing []
      else s.answer m .range [] := by
  unfold cmdGroupPeriod
  simp only [Bool.not_eq_true', ← Bool.not_eq_true, ite_not]
  rfl

/-- An accepted GROUP_PERIOD sets the period and answers. -/
theorem exec_groupPeriod_ok {s : State} {rest : List LinkMsg} (h : s.Takes kindGroupPeriod (lenIs 2) m rest)
    (hr : periodOk (fieldU16 m.payload 0) = true) (hf : s.allFit (fieldU16 m.payload 0) = true) :
    exec .groupPeriod s = .next
      { s with
        clocks := { s.clocks with groupPeriod := fieldU16 m.payload 0 }
        link := s.link.answered rest m .ok [] } := by
  have rule : cmdGroupPeriod m s.takeFront =
      (s.takeFront.answer m .ok []).setClocks { s.clocks with groupPeriod := fieldU16 m.payload 0 } :=
    (cmdGroupPeriod_eq m s.takeFront).trans ((if_pos hr).trans (if_pos hf))
  show Host.Outcome.next (s.dispatch kindGroupPeriod (lenIs 2) false cmdGroupPeriod) = _
  rw [State.dispatch_takes h, rule, h.answer]
  rfl

end

/-- Settles O44: the fields are the reply's fields one by one, and each command's own rule writes its field and answers. -/
theorem laneCommandsWriteTheirFields : Obligations.LaneCommandsWriteTheirFields := by
  unfold Obligations.LaneCommandsWriteTheirFields
  refine ⟨?fields, ?commands⟩
  case fields =>
    intro s l b1 b2 yes x job
    unfold State.laneFields counted
    simp only [flag_eq, u32_eq, Engine.jobStatus_eq, List.append_assoc]
    rfl
  case commands =>
    intro s m rest wrote refused
    refine ⟨?read, ?faults, ?hold, ?period, ?budget, ?budgetRange, ?holdRange, ?readRange, ?faultsRange⟩
    case read => exact fun l clear h hp => h.writesLane rfl (cmdLaneRead_ok _ hp)
    case faults => exact fun l h hl => h.writesLane rfl (cmdNodeFaultsRead_ok _ hl)
    case hold =>
      intro l ranges h hp
      refine ⟨fun fit => h.writesLane rfl ((cmdNodeHold_eq _ hp).trans (if_pos (rangesOk_iff.2 fit))),
        fun ⟨r, hr, bad⟩ => h.answers rfl ((cmdNodeHold_eq _ hp).trans (if_neg fun fit => ?_))⟩
      obtain ⟨hcount, hlast⟩ := rangesOk_iff.1 fit r hr
      exact bad.elim (Nat.ne_of_gt hcount) (Nat.not_lt.2 hlast)
    case period =>
      intro h period inRange fits
      have hrange : periodOk period = true ↔ inRange := periodOk_iff
      have hfits : s.allFit period = true ↔ fits := State.allFit_iff
      have rule := cmdGroupPeriod_eq m s.takeFront
      refine ⟨fun hr hf => exec_groupPeriod_ok h (hrange.2 hr) (hfits.2 hf),
        fun hr => h.answers rfl (rule.trans (if_neg (mt hrange.1 hr))),
        fun hr hf => h.answers rfl (rule.trans ((if_pos (hrange.2 hr)).trans (if_neg (mt hfits.1 hf))))⟩
    case budget => exact fun l budget derate h hp => h.writesLane rfl (cmdBudgetSet_ok _ hp)
    case budgetRange => exact fun h hp => h.answers rfl (cmdBudgetSet_range _ hp)
    case holdRange => exact fun h hp => h.answers rfl (cmdNodeHold_range _ hp)
    case readRange => exact fun h hp => h.answers rfl (cmdLaneRead_range _ hp)
    case faultsRange => exact fun h out => h.answers rfl (cmdNodeFaultsRead_range _ out)

end Sys2Proof.Machine
end

section
/-! RETURN_WINDOW_END as the statement writes it, and when the part is at rest (R131, R138, R146, R183, R185). -/

namespace Sys2Proof.Machine

/-! ### At rest (R185, log 38) -/

section

variable {s : State} {l : LaneId}

theorem State.atRest_iff :
    s.atRest = true ↔ s.power.state = .sleeping ∧ (∀ l : LaneId, s.lanes[l].frame = none) ∧ s.engine = ⟨[], none⟩ ∧
      (.sense ∈ s.clocks.taken ∨ ∀ c : ChannelId, .channel c ∉ s.clocks.taken) := by
  have idle : s.engine = ⟨[], none⟩ ↔ s.engine.queue = [] ∧ s.engine.job = none := by
    cases s.engine
    simp only [Engine.mk.injEq]
  have finished : s.senseBegun = false ↔ .sense ∈ s.clocks.taken ∨ ∀ c : ChannelId, .channel c ∉ s.clocks.taken := by
    rw [← Bool.not_eq_true, State.senseBegun_iff]
    simp only [not_and_or, not_not, not_exists]
  rw [← finished, idle]
  simp only [State.atRest, Bool.and_eq_true, decide_eq_true_eq, List.all_eq_true, List.mem_finRange, true_imp_iff,
    Option.isNone_iff_eq_none, List.isEmpty_iff, Bool.not_eq_true', and_assoc]

/-- A part that is not at rest does not enter STANDBY. -/
theorem State.standbyCheck_waits (h : ¬s.atRest = true) : s.standbyCheck = s := by
  unfold State.standbyCheck
  split
  · exact if_neg h
  · rfl

/-- A frame in flight keeps the part from STANDBY. -/
theorem State.standbyCheck_inFlight (h : s.lanes[l].frame ≠ none) : s.standbyCheck = s :=
  State.standbyCheck_waits fun rest => h ((State.atRest_iff.1 rest).2.1 l)

end

/-! ### The answer of a node (R146, R183) -/

/-- An answer, given by its three bytes. -/
theorem answerFlags_bytes (echo poll flags check : Byte) :
    answerFlags poll.toNat (echo ++ flags ++ check) =
      if echo = poll ∧ flags.toNat < 32 ∧ check.toNat = 255 - (echo.toNat + flags.toNat) % 256 then flags.setWidth 6
      else 0x20 := by
  have hecho : (echo ++ flags ++ check).extractLsb' 16 8 = echo := by
    rw [BitVec.extractLsb'_append_eq_of_le (by decide), BitVec.extractLsb'_append_eq_left]
  have hflags : (echo ++ flags ++ check).extractLsb' 8 8 = flags := by
    rw [BitVec.extractLsb'_append_eq_of_le (by decide), BitVec.extractLsb'_append_eq_right]
  have hcheck : (echo ++ flags ++ check).extractLsb' 0 8 = check := BitVec.extractLsb'_append_eq_right
  unfold answerFlags
  simp only [hecho, hflags, hcheck, BitVec.toNat_inj]
  rfl

/-- A flag byte with bits 5 to 7 at 0. -/
theorem answerFlags_flags (poll : Byte) (flags : BitVec 5) (check : Byte) :
    answerFlags poll.toNat (poll ++ flags.setWidth 8 ++ check) =
      if check.toNat = 255 - (poll.toNat + flags.toNat) % 256 then flags.setWidth 6 else 0x20 := by
  have value : (flags.setWidth 8).toNat = flags.toNat := by
    rw [BitVec.toNat_setWidth]
    omega
  rw [answerFlags_bytes, value]
  simp [flags.isLt]

/-! ### What follows the last slot of a frame (R138, R146) -/

section

variable {s : State} {l : LaneId} {f : Frame} {answer : BitVec 24}

/-- The lane after the return window, with no dark frame owed any more. -/
def Lane.pastDebt (x : Lane) (answer : BitVec 24) : Lane := { x.pastWindow answer with darkOwed := false }

theorem Lane.pastDebt_unowed {x : Lane} (h : x.darkOwed = false) : x.pastDebt answer = x.pastWindow answer := by
  unfold Lane.pastDebt Lane.pastWindow
  rw [h]

theorem exec_returnWindowEnd (hf : s.lanes[l].frame = some f) (hn : f.nextSlot = s.lanes[l].nodeCount) :
    exec (.returnWindowEnd l answer) s =
      .next (((s.windowOver l f answer (s.lanes[l].pastWindow answer)).payDark l).stopIfDone l).standbyCheck := by
  show Host.Outcome.next (s.windowEnd l answer) = _
  unfold State.windowEnd
  simp only [hf]
  rw [State.endFrame_sent hn]

/-- A lane that stays enabled owes no dark frame, or drops it in a sag: the entry to STANDBY is then judged. -/
theorem exec_returnWindowEnd_quiet (hf : s.lanes[l].frame = some f) (hn : f.nextSlot = s.lanes[l].nodeCount)
    (hs : s.lanes[l].state ≠ .stopping) (ho : s.lanes[l].darkOwed = false ∨ s.sense.supply.state = .sag) :
    exec (.returnWindowEnd l answer) s = exec .standbyEntry (s.windowOver l f answer (s.lanes[l].pastDebt answer)) := by
  have own (y : Lane) : (s.windowOver l f answer y).lanes[l] = y := State.windowOver_lane ..
  have paid : (s.windowOver l f answer (s.lanes[l].pastWindow answer)).payDark l =
      s.windowOver l f answer (s.lanes[l].pastDebt answer) := by
    cases howed : s.lanes[l].darkOwed with
    | false => rw [Lane.pastDebt_unowed howed, State.payDark_unowed (by rw [own]; exact howed)]
    | true =>
      have sag : s.sense.supply.state = .sag := ho.resolve_left (by rw [howed]; decide)
      rw [State.payDark_owed (by rw [own]; exact howed), own, State.windowOver_setLane,
        State.beginDark_sag (s := s.windowOver l f answer _) sag]
      rfl
  rw [exec_returnWindowEnd hf hn, paid, State.stopIfDone_enabled (by rw [own]; exact hs)]
  rfl

/-- A dark frame that is owed begins, unless the supply sags. -/
theorem exec_returnWindowEnd_dark (hf : s.lanes[l].frame = some f) (hn : f.nextSlot = s.lanes[l].nodeCount)
    (ho : s.lanes[l].darkOwed = true) (hs : s.sense.supply.state ≠ .sag) :
    exec (.returnWindowEnd l answer) s = .next
      (s.windowOver l f answer ((s.lanes[l].pastDebt answer).sendDark
        (max s.clocks.now (f.beganAt + frameTime s.lanes[l].bitRate s.lanes[l].nodeCount)) (s.blanks l))) := by
  have own (y : Lane) : (s.windowOver l f answer y).lanes[l] = y := State.windowOver_lane ..
  have paid : (s.windowOver l f answer (s.lanes[l].pastWindow answer)).payDark l =
      s.windowOver l f answer ((s.lanes[l].pastDebt answer).sendDark
        (max s.clocks.now (f.beganAt + frameTime s.lanes[l].bitRate s.lanes[l].nodeCount)) (s.blanks l)) := by
    rw [State.payDark_owed (by rw [own]; exact ho), own, State.windowOver_setLane,
      State.beginDark_supplied (s := s.windowOver l f answer _) hs, own, State.windowOver_setLane]
    rfl
  have inFlight : (s.windowOver l f answer ((s.lanes[l].pastDebt answer).sendDark
      (max s.clocks.now (f.beganAt + frameTime s.lanes[l].bitRate s.lanes[l].nodeCount)) (s.blanks l))).lanes[l].frame ≠
      none := by
    rw [own]
    exact Lane.sendDark_frame _ _ _
  rw [exec_returnWindowEnd hf hn, paid, State.stopIfDone_inFlight inFlight, State.standbyCheck_inFlight inFlight]

end

/-- Settles O47: the end of a frame by what its lane owes, and the flags of an answer byte by byte. -/
theorem returnWindowRecordsTheAnswer : Obligations.ReturnWindowRecordsTheAnswer := by
  unfold Obligations.ReturnWindowRecordsTheAnswer
  refine ⟨?window, answerFlags_bytes, answerFlags_flags⟩
  intro s l f answer x old new past now ended hf hn
  have quiet := exec_returnWindowEnd_quiet (s := s) (answer := answer) hf hn
  refine ⟨fun hs ho hp => ?awake, quiet, fun ho hs => ?dark⟩
  case awake =>
    refine (quiet hs (.inl ho)).trans (congrArg Host.Outcome.next ?_)
    exact State.standbyCheck_awake (s := ended past) hp
  case dark =>
    obtain ⟨g, ⟨hbegan, hfed, hlength, hslots⟩, hy⟩ := past.sendDark_eq now (s.blanks l)
    exact ⟨_, g, exec_returnWindowEnd_dark hf hn ho hs, hy, hbegan, hfed, hlength, hslots⟩

end Sys2Proof.Machine
end

section
/-! SLEEP and STANDBY_ENTRY as the statement writes them (R138, R142, R185, R186). -/

namespace Sys2Proof.Machine

section

variable {s : State} {m : LinkMsg} {rest : List LinkMsg} {dark : Bool} {l : LaneId}

/-! ### The entry to STANDBY (R185, R186, log 31) -/

theorem u8_finishCode (dark : Bool) : u8 (finishCode dark) = [if dark then 0 else 1] := by cases dark <;> rfl

theorem State.standbyCheck_enters (hd : s.link.inDispatch = some (.sleep m dark)) (h : s.atRest = true) :
    s.standbyCheck = s.enterStandby m dark := by
  unfold State.standbyCheck
  rw [hd]
  exact if_pos h

/-- With no SLEEP in dispatch the part does not enter STANDBY. -/
theorem State.standbyCheck_unasked (h : ∀ m dark, s.link.inDispatch ≠ some (.sleep m dark)) : s.standbyCheck = s := by
  unfold State.standbyCheck
  split
  · next m dark hd => exact absurd hd (h m dark)
  · rfl

/-- A message that starts WAKING with the sense part of the tick taken passes the tick (log 31). -/
theorem State.wakeByMessage_passes (h : .sense ∈ s.clocks.taken) :
    s.wakeByMessage = (s.enterWaking .message).setClocks s.clocks.passTick := congrArg (State.setClocks _) (if_pos h)

theorem State.wakeByMessage_keeps (h : .sense ∉ s.clocks.taken) : s.wakeByMessage = s.enterWaking .message :=
  congrArg (State.setClocks _) (if_neg h)

/-- SLEEP is answered and STANDBY_ENTERED posted; a waiting message starts WAKING at once. -/
theorem State.enterStandby_eq (s : State) (m : LinkMsg) (dark : Bool) :
    s.enterStandby m dark =
      { s with
        power := if s.link.buffer = [] then { s.power with state := .standby }
          else ⟨.waking, some .message, 0, s.power.events⟩
        wheel := { s.wheel with resync := true }
        link := (s.link.answered s.link.buffer m .ok [if dark then 0 else 1]).post .standbyEntered
          [if dark then 0 else 1,
            BitVec.ofNat 8 ((List.finRange 4).countP fun l => decide (s.lanes[l].state ≠ .disabled))]
        clocks := if s.link.buffer ≠ [] ∧ .sense ∈ s.clocks.taken then
            { s.clocks with taken := besidesLines ++ s.clocks.taken }
          else s.clocks } := by
  unfold State.enterStandby
  rw [u8_finishCode]
  unfold State.ok State.answer
  dsimp only
  rw [LinkState.joinReply_eq_answered]
  by_cases hb : s.link.buffer = []
  · have stays : ¬(s.link.buffer ≠ [] ∧ .sense ∈ s.clocks.taken) := fun waits => waits.1 hb
    rw [if_pos (List.isEmpty_iff.2 hb), if_pos hb, if_neg stays]
    rfl
  · rw [if_neg (mt List.isEmpty_iff.1 hb), if_neg hb]
    by_cases hsense : TickPart.sense ∈ s.clocks.taken
    · rw [if_pos (show s.link.buffer ≠ [] ∧ .sense ∈ s.clocks.taken from ⟨hb, hsense⟩)]
      exact State.wakeByMessage_passes hsense
    · have sampled : ¬(s.link.buffer ≠ [] ∧ .sense ∈ s.clocks.taken) := fun waits => hsense waits.2
      rw [if_neg sampled]
      exact State.wakeByMessage_keeps hsense

/-! ### SLEEP (R138, R142, R185) -/

theorem finishOf_out {n : Nat} (h : 2 ≤ n) : finishOf n = none := by
  obtain ⟨k, rfl⟩ := Nat.exists_eq_add_of_le' h
  rfl

/-- A lane at the entry to SLEEPING: its feed is closed, and under DARK a lane that is lit begins a dark frame or owes one. -/
def State.sleptLane (s : State) (dark : Bool) (l : LaneId) : Lane :=
  if dark = true ∧ (s.lanes[l].state = .starting ∨ s.lanes[l].state = .running) then
    if s.lanes[l].frame = none then
      if s.sense.supply.state = .sag then s.lanes[l].toSleep
      else s.lanes[l].toSleep.sendDark s.clocks.now (s.blanks l)
    else { s.lanes[l].toSleep with darkOwed := true }
  else s.lanes[l].toSleep

theorem Lane.toSleep_frame {x : Lane} : x.toSleep.frame = none ↔ x.frame = none := Option.map_eq_none_iff

theorem State.sleepLane_eq (s : State) (dark : Bool) (l : LaneId) :
    s.sleepLane dark l = s.setLane l (s.sleptLane dark l) := by
  have lit : (dark && (decide (s.lanes[l].state = .starting) || decide (s.lanes[l].state = .running))) = true ↔
      dark = true ∧ (s.lanes[l].state = .starting ∨ s.lanes[l].state = .running) := by
    simp only [Bool.and_eq_true, Bool.or_eq_true, decide_eq_true_eq]
  have own : (s.setLane l s.lanes[l].toSleep).lanes[l] = s.lanes[l].toSleep := State.setLane_self ..
  unfold State.sleepLane State.sleptLane
  simp only [lit]
  split_ifs with hlit hframe hsag
  · rw [State.darkNowOrNext_now (by rw [own]; exact Lane.toSleep_frame.2 hframe),
      State.beginDark_sag (s := s.setLane l _) hsag]
  · rw [State.darkNowOrNext_now (by rw [own]; exact Lane.toSleep_frame.2 hframe),
      State.beginDark_supplied (s := s.setLane l _) hsag, own, State.setLane_setLane]
    rfl
  · rw [State.darkNowOrNext_owed (by rw [own]; exact mt Lane.toSleep_frame.1 hframe), own, State.setLane_setLane]
  · rfl

/-- A lane falls asleep by its own record. -/
theorem State.sleptLane_setLane (s : State) {k l : LaneId} (h : k ≠ l) (y : Lane) (dark : Bool) :
    (s.setLane k y).sleptLane dark l = s.sleptLane dark l := by
  have other : (s.setLane k y).lanes[l] = s.lanes[l] := by rw [State.setLane_lanes, Tab.get_put, if_neg h]
  unfold State.sleptLane
  rw [other]
  rfl

theorem Tab.put_all {α : Type} (t : Tab α 4) (f : Fin 4 → α) :
    (((t.put 0 (f 0)).put 1 (f 1)).put 2 (f 2)).put 3 (f 3) = Vector.ofFn f := by
  refine Tab.ext_get fun i => ?_
  fin_cases i <;> simp [Tab.put]

/-- All the lanes fall asleep, each by its own record. -/
theorem State.sleepLanes_eq (s : State) (dark : Bool) :
    (List.finRange 4).foldl (fun u l => u.sleepLane dark l) s =
      { s with lanes := Vector.ofFn fun l => s.sleptLane dark l } := by
  rw [foldl_lanes, ← Tab.put_all s.lanes fun l => s.sleptLane dark l]
  simp (disch := decide) only [State.sleepLane_eq, State.sleptLane_setLane]
  rfl

/-- The part when SLEEP has been dispatched, before the entry to STANDBY is judged. -/
def State.asleep (s : State) (m : LinkMsg) (rest : List LinkMsg) (dark : Bool) : State :=
  { s with
    lanes := Vector.ofFn fun l => s.sleptLane dark l
    power := { s.power with state := .sleeping }
    link := { s.link with buffer := rest, inDispatch := some (.sleep m dark) } }

theorem State.asleep_lane : (s.asleep m rest dark).lanes[l] = s.sleptLane dark l := by
  unfold State.asleep
  simp

theorem exec_sleep (h : s.Takes kindSleep (lenIs 1) m rest) (hk : finishOf (fieldU8 m.payload 0) = some dark) :
    exec .sleep s = .next (s.asleep m rest dark).standbyCheck := by
  have rule : cmdSleep m s.takeFront = s.takeFront.goToSleep m dark := by
    unfold cmdSleep
    rw [hk]
  show Host.Outcome.next (s.dispatch kindSleep (lenIs 1) false cmdSleep) = _
  rw [State.dispatch_takes h, rule, h.takeFront_eq]
  unfold State.goToSleep
  simp only [State.sleepLanes_eq]
  rfl

theorem cmdSleep_range (s : State) (h : 2 ≤ fieldU8 m.payload 0) : cmdSleep m s = s.answer m .range [] := by
  unfold cmdSleep
  rw [finishOf_out h]
  rfl

/-! ### What a lane becomes -/

theorem State.sleptLane_unlit (h : ¬(s.lanes[l].state = .starting ∨ s.lanes[l].state = .running)) :
    s.sleptLane dark l = s.lanes[l].toSleep := if_neg fun lit => h lit.2

theorem State.sleptLane_keep : s.sleptLane false l = s.lanes[l].toSleep := if_neg fun lit => nomatch lit.1

theorem State.sleptLane_owes (hl : s.lanes[l].state = .starting ∨ s.lanes[l].state = .running)
    (hf : s.lanes[l].frame ≠ none) : s.sleptLane true l = { s.lanes[l].toSleep with darkOwed := true } :=
  (if_pos ⟨rfl, hl⟩).trans (if_neg hf)

theorem State.sleptLane_sag (hf : s.lanes[l].frame = none) (hs : s.sense.supply.state = .sag) :
    s.sleptLane dark l = s.lanes[l].toSleep := by
  unfold State.sleptLane
  rw [if_pos hf, if_pos hs, ite_self]

theorem State.sleptLane_sends (hl : s.lanes[l].state = .starting ∨ s.lanes[l].state = .running)
    (hf : s.lanes[l].frame = none) (hs : s.sense.supply.state ≠ .sag) :
    s.sleptLane true l = s.lanes[l].toSleep.sendDark s.clocks.now (s.blanks l) :=
  (if_pos ⟨rfl, hl⟩).trans ((if_pos hf).trans (if_neg hs))

/-- A frame in flight stays in flight. -/
theorem State.sleptLane_inFlight (h : s.lanes[l].frame ≠ none) : (s.sleptLane dark l).frame ≠ none := by
  have closed := mt (Lane.toSleep_frame (x := s.lanes[l])).1 h
  unfold State.sleptLane
  rw [if_neg h]
  split_ifs
  · exact closed
  · exact closed

/-- A lit lane has a frame in flight under DARK, unless the supply sags. -/
theorem State.sleptLane_lit (hl : s.lanes[l].state = .starting ∨ s.lanes[l].state = .running)
    (hs : s.sense.supply.state ≠ .sag) : (s.sleptLane true l).frame ≠ none := by
  by_cases hf : s.lanes[l].frame = none
  · rw [State.sleptLane_sends hl hf hs]
    exact Lane.sendDark_frame _ _ _
  · exact State.sleptLane_inFlight hf

/-- A frame that is left in flight keeps SLEEP in dispatch. -/
theorem exec_sleep_inFlight (h : s.Takes kindSleep (lenIs 1) m rest) (hk : finishOf (fieldU8 m.payload 0) = some dark)
    (hf : (s.sleptLane dark l).frame ≠ none) : exec .sleep s = .next (s.asleep m rest dark) := by
  rw [exec_sleep h hk, State.standbyCheck_inFlight (by rw [State.asleep_lane]; exact hf)]

/-- SLEEP that finds a frame in flight or the engine busy stays in dispatch. -/
theorem exec_sleep_busy (h : s.Takes kindSleep (lenIs 1) m rest) (hk : finishOf (fieldU8 m.payload 0) = some dark)
    (hb : (∃ l : LaneId, s.lanes[l].frame ≠ none) ∨ s.engine ≠ ⟨[], none⟩) :
    exec .sleep s = .next (s.asleep m rest dark) := by
  rcases hb with ⟨l, hf⟩ | he
  · exact exec_sleep_inFlight h hk (State.sleptLane_inFlight hf)
  · rw [exec_sleep h hk, State.standbyCheck_waits (s := s.asleep m rest dark) fun rested => he (State.atRest_iff.1 rested).2.2.1]

/-- Where no lane begins or owes a dark frame, SLEEP judges the entry to STANDBY with each lane's feed closed. -/
theorem exec_sleep_closes (h : s.Takes kindSleep (lenIs 1) m rest) (hk : finishOf (fieldU8 m.payload 0) = some dark)
    (hc : ∀ l : LaneId, s.sleptLane dark l = s.lanes[l].toSleep) :
    exec .sleep s = exec .standbyEntry
      { s with
        lanes := Vector.ofFn fun l => s.lanes[l].toSleep
        power := { s.power with state := .sleeping }
        link := { s.link with buffer := rest, inDispatch := some (.sleep m dark) } } := by
  rw [exec_sleep h hk]
  unfold State.asleep
  simp only [hc]
  rfl

end

/-- Settles O51: the entry to STANDBY by whether the part is at rest, and SLEEP by what each lane becomes. -/
theorem sleepEndsInStandby : Obligations.SleepEndsInStandby := by
  unfold Obligations.SleepEndsInStandby
  refine ⟨?enters, ?waits, ?judged, ?stays⟩
  case enters =>
    intro s m dark hp hd hf he hc
    refine congrArg Host.Outcome.next ?_
    rw [State.standbyCheck_enters hd (State.atRest_iff.2 ⟨hp, hf, he, hc⟩), State.enterStandby_eq]
  case waits =>
    intro s h
    refine congrArg Host.Outcome.next ?_
    rcases h with hp | hd | ⟨l, hf⟩ | he | ⟨hsense, c, hc⟩
    · exact State.standbyCheck_awake hp
    · exact State.standbyCheck_unasked hd
    · exact State.standbyCheck_inFlight hf
    · exact State.standbyCheck_waits fun rested => he (State.atRest_iff.1 rested).2.2.1
    · exact State.standbyCheck_begun (State.senseBegun_iff.2 ⟨hsense, c, hc⟩)
  case judged =>
    intro s m rest h slept kept
    refine ⟨fun hk => ?keep, fun hk hq => ?quiet, fun hk ⟨l, hl⟩ hs => ?lit⟩
    case keep => exact exec_sleep_closes h (by rw [hk]; rfl) fun l => State.sleptLane_keep
    case quiet =>
      refine exec_sleep_closes h (by rw [hk]; rfl) fun l => ?_
      obtain ⟨hf, hs⟩ := hq l
      by_cases hl : s.lanes[l].state = .starting ∨ s.lanes[l].state = .running
      · exact State.sleptLane_sag hf (hs hl)
      · exact State.sleptLane_unlit hl
    case lit =>
      exact ⟨_, exec_sleep_inFlight h (by rw [hk]; rfl) (State.sleptLane_lit hl hs)⟩
  case stays =>
    intro s m rest h hb slept kept
    refine ⟨fun hk => ?keep, fun hk => ⟨_, exec_sleep_busy h (by rw [hk]; rfl) hb, fun l => ?lane⟩,
      fun out => h.answers rfl (cmdSleep_range _ out)⟩
    case keep =>
      rw [exec_sleep_busy h (by rw [hk]; rfl) hb]
      unfold State.asleep
      simp only [State.sleptLane_keep]
      rfl
    case lane =>
      have own : (s.asleep m rest true).lanes[l] = s.sleptLane true l := State.asleep_lane
      intro x lit
      refine ⟨fun hl => own.trans (State.sleptLane_unlit hl), fun hl hf => own.trans (State.sleptLane_owes hl hf),
        fun hl hf hs => own.trans (State.sleptLane_sag hf hs), fun hl hf hs => ?_⟩
      obtain ⟨f, ⟨hbegan, -, hlength, hslots⟩, hy⟩ := x.toSleep.sendDark_eq s.clocks.now (s.blanks l)
      have sent := (own.trans (State.sleptLane_sends hl hf hs)).trans hy
      exact ⟨f, congrArg Lane.frame sent, congrArg Lane.darkSent sent, (congrArg Lane.state sent :), hbegan, hlength, hslots⟩

end Sys2Proof.Machine
end

section
/-! SUPPORT. The lanes that a sag held off resume one after another: what each becomes, and which jobs they ask for (R149, R150,
R185, log 11). -/

namespace Sys2Proof.Machine

section

variable {s t : State} {l : LaneId}

/-! ### What the resumes leave alone -/

/-- The parts of the state that enabling and resuming lanes may change. -/
abbrev State.Resumed (s t : State) : Prop := s.ChangesOnly [.lanes, .engine, .jobs] t

theorem State.Resumed.eq (h : s.Resumed t) : t = { s with lanes := t.lanes, engine := t.engine } := by
  have link : t.link = s.link := h .link (by decide)
  have zones : t.zones = s.zones := h .zones (by decide)
  have layers : t.layers = s.layers := h .layers (by decide)
  have zoneStacks : t.zoneStacks = s.zoneStacks := h .zoneStacks (by decide)
  have pattern : t.pattern = s.pattern := h .pattern (by decide)
  have players : t.players = s.players := h .players (by decide)
  have lines : t.lines = s.lines := h .lines (by decide)
  have wheel : t.wheel = s.wheel := h .wheel (by decide)
  have bindings : t.bindings = s.bindings := h .bindings (by decide)
  have cal : t.cal = s.cal := h .cal (by decide)
  have sense : t.sense = s.sense := h .sense (by decide)
  have power : t.power = s.power := h .power (by decide)
  have clocks : t.clocks = s.clocks := h .clocks (by decide)
  have pending : t.pending = s.pending := h .pending (by decide)
  rw [← link, ← zones, ← layers, ← zoneStacks, ← pattern, ← players, ← lines, ← wheel, ← bindings, ← cal, ← sense, ← power,
    ← clocks, ← pending]

/-- A job of a lane reads the same after other lanes have resumed. -/
theorem State.Resumed.newJob (h : s.Resumed t) {r : Request} (hl : t.lanes[r.lane] = s.lanes[r.lane]) :
    t.newJob r = s.newJob r := by
  unfold State.newJob State.laneTemp
  rw [hl, h.eq]

/-! ### One lane (R150, R185) -/

/-- A dark frame is to be sent on a resume: in SLEEPING under DARK, where the lane has sent none (R185). -/
abbrev State.DarkOnResume (s : State) (l : LaneId) : Prop :=
  s.power.state = .sleeping ∧ s.sleepsDark = true ∧ s.lanes[l].darkSent = false

/-- A lane that resumes with no sag. -/
def State.resumedLane (s : State) (l : LaneId) : Lane :=
  let y := s.lanes[l].entering s.clocks.now .starting
  if s.DarkOnResume l then
    if s.lanes[l].frame = none then y.sendDark s.clocks.now (s.blanks l) else { y with darkOwed := true }
  else y

theorem State.sleepsDark_iff : s.sleepsDark = true ↔ ∃ m, s.link.inDispatch = some (.sleep m true) := by
  unfold State.sleepsDark
  split
  · next m dark hd => simp [hd]
  · next hd =>
    simp only [Bool.false_eq_true, false_iff, not_exists]
    exact fun m => hd m true

theorem State.resumedLane_plain (h : ¬s.DarkOnResume l) :
    s.resumedLane l = s.lanes[l].entering s.clocks.now .starting := if_neg h

theorem State.resumedLane_owes (h : s.DarkOnResume l) (hf : s.lanes[l].frame ≠ none) :
    s.resumedLane l = { s.lanes[l].entering s.clocks.now .starting with darkOwed := true } := (if_pos h).trans (if_neg hf)

theorem State.resumedLane_sends (h : s.DarkOnResume l) (hf : s.lanes[l].frame = none) :
    s.resumedLane l = (s.lanes[l].entering s.clocks.now .starting).sendDark s.clocks.now (s.blanks l) :=
  (if_pos h).trans (if_pos hf)

/-- A lane that has resumed is STARTING, and no back buffer is ready. -/
theorem State.resumedLane_state (s : State) (l : LaneId) :
    (s.resumedLane l).state = .starting ∧ (s.resumedLane l).backReady = false := by
  obtain ⟨f, -, hy⟩ := (s.lanes[l].entering s.clocks.now .starting).sendDark_eq s.clocks.now (s.blanks l)
  unfold State.resumedLane
  dsimp only
  rw [hy]
  split_ifs <;> exact ⟨rfl, rfl⟩

/-- A lane resumes by its own record. -/
theorem State.Resumed.resumedLane (h : s.Resumed t) (hl : t.lanes[l] = s.lanes[l]) : t.resumedLane l = s.resumedLane l := by
  unfold State.resumedLane State.DarkOnResume State.sleepsDark State.blanks
  rw [hl, h.eq]

/-- A lane that has just been renewed sends its dark frame, or owes it. -/
theorem State.entering_darkOnResume (hs : s.sense.supply.state ≠ .sag) :
    (s.setLane l (s.lanes[l].entering s.clocks.now .starting)).darkOnResume l = s.setLane l (s.resumedLane l) := by
  let y := s.lanes[l].entering s.clocks.now .starting
  have own : (s.setLane l y).lanes[l] = y := State.setLane_self ..
  have due : (decide (s.power.state = .sleeping) && s.sleepsDark && decide (y.state = .starting) && !y.darkSent) = true ↔
      s.DarkOnResume l := by
    have starting : y.state = .starting := rfl
    have darkSent : y.darkSent = s.lanes[l].darkSent := rfl
    simp only [starting, darkSent, decide_true, Bool.and_true, Bool.and_eq_true, decide_eq_true_eq, Bool.not_eq_true',
      and_assoc]
  unfold State.darkOnResume
  rw [own]
  by_cases hd : s.DarkOnResume l
  · refine (if_pos (due.2 hd)).trans ?_
    by_cases hf : s.lanes[l].frame = none
    · rw [State.darkNowOrNext_now (by rw [own]; exact hf), State.beginDark_supplied (s := s.setLane l y) hs, own,
        State.setLane_setLane, State.resumedLane_sends hd hf]
      rfl
    · rw [State.darkNowOrNext_owed (by rw [own]; exact hf), own, State.setLane_setLane, State.resumedLane_owes hd hf]
  · rw [State.resumedLane_plain hd]
    exact if_neg (mt due.1 hd)

/-- The state in which a lane that resumes asks for a job: its outstanding job is marked, and its record is renewed. -/
def State.renewed (s : State) (l : LaneId) : State := (s.setEngine (s.engine.markStale l)).setLane l (s.resumedLane l)

theorem State.renewed_lane : (s.renewed l).lanes[l] = s.resumedLane l := State.setLane_self ..

/-- With no sag a BUFFERED lane that resumes in ACTIVE asks for a job. -/
theorem State.resumeLane_eq (hs : s.sense.supply.state ≠ .sag) :
    s.resumeLane l =
      if s.lanes[l].latency = .buffered ∧ s.power.state = .active then (s.renewed l).request l else s.renewed l := by
  let marked := s.setEngine (s.engine.markStale l)
  unfold State.resumeLane
  split_ifs with h
  · have plain : s.resumedLane l = s.lanes[l].entering s.clocks.now .starting :=
      State.resumedLane_plain fun dark => nomatch h.2.symm.trans dark.1
    have power : ((s.renewed l).request l).power = s.power := State.ChangesOnly.request _ l .power (by decide)
    have active : ¬(decide (((s.renewed l).request l).power.state = .sleeping) = true) := by
      rw [power, h.2]
      decide
    have asks : marked.enableLane l = (s.renewed l).request l := by
      rw [State.enableLane_asks (s := marked) hs h.1 h.2]
      unfold State.renewed
      rw [plain]
      rfl
    show (marked.enableLane l).darkOnResume l = _
    rw [asks]
    unfold State.darkOnResume
    simp only [Bool.eq_false_iff.2 active, Bool.false_and, Bool.false_eq_true, if_false]
  · show (marked.enableLane l).darkOnResume l = _
    rw [State.enableLane_quiet (s := marked) hs (not_and_or.1 h)]
    exact State.entering_darkOnResume (s := marked) hs

theorem State.resumeLane_lanes (hs : s.sense.supply.state ≠ .sag) :
    (s.resumeLane l).lanes = s.lanes.put l (s.resumedLane l) := by
  rw [State.resumeLane_eq hs]
  split_ifs
  · exact State.ChangesOnly.request (s.renewed l) l .lanes (by decide)
  · rfl

/-- A request leaves the other lanes' jobs alone. -/
theorem State.request_outstanding_other {k : LaneId} (h : k ≠ l) :
    (s.request l).engine.outstanding k = s.engine.outstanding k := by
  have asked (e : Engine) : k ∈ Engine.lanes ⟨e.queue ++ [⟨l, false⟩], e.job⟩ ↔ k ∈ e.lanes := by
    unfold Engine.lanes
    simp [h]
  rw [Bool.eq_iff_iff, Engine.outstanding_iff, Engine.outstanding_iff]
  unfold State.request
  split_ifs
  · rfl
  · exact (State.startJob_lanes _).mem_iff.trans (asked s.engine)

/-! ### The lanes of an order, one after another (log 11) -/

/-- A PAUSED lane resumes; another stays as it is. -/
def State.resumeOne (s : State) (l : LaneId) : State := if s.lanes[l].state = .paused then s.resumeLane l else s

def State.resumePaused (s : State) (ls : List LaneId) : State := ls.foldl State.resumeOne s

theorem State.resumePaused_cons (s : State) (l : LaneId) (ls : List LaneId) :
    s.resumePaused (l :: ls) = (s.resumeOne l).resumePaused ls := rfl

theorem State.resumeWhere_paused (s : State) (first : List LaneId) :
    s.resumeWhere first (· = .paused) = s.resumePaused (resumeOrder first) := by
  unfold State.resumeWhere State.resumePaused State.resumeOne
  simp only [decide_eq_true_eq]

theorem State.resumeOne_resumed (s : State) (l : LaneId) : s.Resumed (s.resumeOne l) :=
  State.ChangesOnly.ite (State.ChangesOnly.resumeLane s l) (State.ChangesOnly.refl s _)

theorem State.resumePaused_resumed (s : State) (ls : List LaneId) : s.Resumed (s.resumePaused ls) :=
  State.ChangesOnly.foldl State.resumeOne_resumed ls s

theorem State.resumeOne_supplied (hs : s.sense.supply.state ≠ .sag) (l : LaneId) :
    (s.resumeOne l).sense.supply.state ≠ .sag := by
  rw [show (s.resumeOne l).sense = s.sense from s.resumeOne_resumed l .sense (by decide)]
  exact hs

theorem State.resumeOne_lanes (hs : s.sense.supply.state ≠ .sag) (l : LaneId) :
    (s.resumeOne l).lanes =
      if s.lanes[l].state = .paused then s.lanes.put l (s.resumedLane l) else s.lanes := by
  unfold State.resumeOne
  split_ifs
  · exact State.resumeLane_lanes hs
  · rfl

theorem State.resumeOne_lane (hs : s.sense.supply.state ≠ .sag) (l k : LaneId) :
    (s.resumeOne l).lanes[k] = if k = l ∧ s.lanes[k].state = .paused then s.resumedLane k else s.lanes[k] := by
  rw [State.resumeOne_lanes hs]
  by_cases hp : s.lanes[l].state = .paused
  · rw [if_pos hp, Tab.get_put]
    by_cases hk : k = l
    · subst hk
      rw [if_pos rfl, if_pos ⟨rfl, hp⟩]
    · have other : ¬(k = l ∧ s.lanes[k].state = .paused) := fun own => hk own.1
      rw [if_neg (Ne.symm hk), if_neg other]
  · have stays : ¬(k = l ∧ s.lanes[k].state = .paused) := fun own => hp (own.1 ▸ own.2)
    rw [if_neg hp, if_neg stays]

theorem State.resumeOne_other (hs : s.sense.supply.state ≠ .sag) {k : LaneId} (h : k ≠ l) :
    (s.resumeOne l).lanes[k] = s.lanes[k] := by
  rw [State.resumeOne_lane hs, if_neg fun own => h own.1]

/-- A lane whose turn has come is PAUSED no more. -/
theorem State.resumeOne_paused (hs : s.sense.supply.state ≠ .sag) (l k : LaneId) :
    (s.resumeOne l).lanes[k].state = .paused ↔ k ≠ l ∧ s.lanes[k].state = .paused := by
  rw [State.resumeOne_lane hs]
  by_cases own : k = l ∧ s.lanes[k].state = .paused
  · rw [if_pos own, (s.resumedLane_state k).1]
    exact ⟨fun starts => LaneState.noConfusion starts, fun other => absurd own.1 other.1⟩
  · rw [if_neg own]
    exact ⟨fun hp => ⟨fun turn => own ⟨turn, hp⟩, hp⟩, And.right⟩

/-- Each lane of the order that is PAUSED resumes by its own record, once. -/
theorem State.resumePaused_lane (k : LaneId) : ∀ (ls : List LaneId) {s : State}, s.sense.supply.state ≠ .sag →
    (s.resumePaused ls).lanes[k] = if k ∈ ls ∧ s.lanes[k].state = .paused then s.resumedLane k else s.lanes[k] := by
  intro ls
  induction ls with
  | nil =>
    intro s _
    rw [if_neg fun none => nomatch none.1]
    rfl
  | cons l ls ih =>
    intro s hs
    rw [State.resumePaused_cons, ih (State.resumeOne_supplied hs l)]
    by_cases hk : k = l
    · have done : ¬(k ∈ ls ∧ (s.resumeOne l).lanes[k].state = .paused) := fun again =>
        ((State.resumeOne_paused hs l k).1 again.2).1 hk
      rw [if_neg done, State.resumeOne_lane hs]
      simp only [hk, List.mem_cons, true_or]
    · have other := State.resumeOne_other hs hk
      rw [other, (s.resumeOne_resumed l).resumedLane other]
      simp only [List.mem_cons, hk, false_or]

/-! ### Marking and raising jobs (R135, R150) -/

/-- The outstanding jobs of some lanes are marked as raised before the lane resumed. -/
def Engine.markWhere (e : Engine) (p : LaneId → Prop) [DecidablePred p] : Engine where
  queue := e.queue.map fun r => if p r.lane then { r with stale := true } else r
  job := e.job.map fun j => if p j.lane then { j with stale := true } else j

/-- Requests join the end of the queue. -/
def Engine.raise (e : Engine) (rs : List Request) : Engine := ⟨e.queue ++ rs, e.job⟩

section

variable (e : Engine) {p q : LaneId → Prop} [DecidablePred p] [DecidablePred q]

theorem Engine.markStale_eq (l : LaneId) : e.markStale l = e.markWhere (· = l) := rfl

theorem Engine.markWhere_congr (h : ∀ k, p k ↔ q k) : e.markWhere p = e.markWhere q := by
  unfold Engine.markWhere
  simp only [h]

theorem Engine.markWhere_none (h : ∀ k, ¬p k) : e.markWhere p = e := by
  unfold Engine.markWhere
  simp only [h, if_false, List.map_id', Option.map_id']

/-- Marking what is marked changes nothing, so two marks under a condition each are one under either. -/
theorem mark_mark {α : Type} {mark : α → α} {lane : α → LaneId}
    (hm : ∀ a, mark (mark a) = mark a) (a : α) :
    (if q (lane (if p (lane a) then mark a else a)) then mark (if p (lane a) then mark a else a)
      else if p (lane a) then mark a else a) = if p (lane a) ∨ q (lane a) then mark a else a := by
  by_cases hp : p (lane a)
  · rw [if_pos hp, if_pos (Or.inl hp), hm, ite_self]
  · rw [if_neg hp]
    simp only [hp, false_or]

theorem Engine.markWhere_markWhere : (e.markWhere p).markWhere q = e.markWhere fun k => p k ∨ q k := by
  have request (r : Request) := mark_mark (p := p) (q := q) (mark := fun r : Request => { r with stale := true })
    (lane := Request.lane) (fun _ => rfl) r
  have job (j : Job) := mark_mark (p := p) (q := q) (mark := fun j : Job => { j with stale := true })
    (lane := Job.lane) (fun _ => rfl) j
  unfold Engine.markWhere
  simp only [List.map_map, Option.map_map, Function.comp_def, request, job]

/-- Requests of other lanes are not marked. -/
theorem Engine.raise_markWhere {rs : List Request} (h : ∀ r ∈ rs, ¬p r.lane) :
    (e.raise rs).markWhere p = (e.markWhere p).raise rs := by
  have unmarked : rs.map (fun r => if p r.lane then { r with stale := true } else r) = rs :=
    (List.map_congr_left fun r hr => if_neg (h r hr)).trans (List.map_id rs)
  unfold Engine.raise Engine.markWhere
  simp only [List.map_append, unmarked]

theorem Engine.raise_raise (rs qs : List Request) : (e.raise rs).raise qs = e.raise (rs ++ qs) := by
  unfold Engine.raise
  rw [List.append_assoc]

theorem Engine.raise_nil : e.raise [] = e := by
  unfold Engine.raise
  rw [List.append_nil]

theorem Engine.markStale_outstanding (l k : LaneId) : (e.markStale l).outstanding k = e.outstanding k := by
  rw [Bool.eq_iff_iff, Engine.outstanding_iff, Engine.outstanding_iff, Engine.markStale_lanes]

end

/-! ### The jobs that the lanes of an order ask for (R135, R150) -/

/-- A lane of an order that resumes. -/
abbrev State.Woken (s : State) (ls : List LaneId) (l : LaneId) : Prop := l ∈ ls ∧ s.lanes[l].state = .paused

/-- A lane that asks for a job when it resumes: a PAUSED BUFFERED lane in ACTIVE that has none. -/
def State.raises (s : State) (l : LaneId) : Bool :=
  decide (s.power.state = .active ∧ s.lanes[l].state = .paused ∧ s.lanes[l].latency = .buffered ∧
    s.engine.outstanding l = false)

/-- The requests of the lanes of an order. -/
def State.raised (s : State) (ls : List LaneId) : List Request := (ls.filter s.raises).map fun l => ⟨l, false⟩

theorem State.raised_cons (s : State) (l : LaneId) (ls : List LaneId) :
    s.raised (l :: ls) = s.raised [l] ++ s.raised ls := by
  unfold State.raised
  rw [← List.map_append, ← List.filter_append]
  rfl

theorem State.raised_lane {r : Request} (h : r ∈ s.raised [l]) : r.lane = l := by
  unfold State.raised at h
  obtain ⟨k, hk, rfl⟩ := List.mem_map.1 h
  exact List.mem_singleton.1 (List.mem_filter.1 hk).1

theorem State.raised_one (h : s.raises l = true) : s.raised [l] = [⟨l, false⟩] := by
  unfold State.raised
  rw [List.filter_singleton, h]
  rfl

theorem State.raised_none (h : s.raises l = false) : s.raised [l] = [] := by
  unfold State.raised
  rw [List.filter_singleton, h]
  rfl

/-- A resume leaves the other lanes' jobs alone. -/
theorem State.resumeOne_outstanding (hs : s.sense.supply.state ≠ .sag) {k : LaneId} (h : k ≠ l) :
    (s.resumeOne l).engine.outstanding k = s.engine.outstanding k := by
  have renewed : (s.renewed l).engine.outstanding k = s.engine.outstanding k := s.engine.markStale_outstanding l k
  unfold State.resumeOne
  rw [State.resumeLane_eq hs]
  split_ifs
  · rw [State.request_outstanding_other h, renewed]
  · exact renewed
  · rfl

theorem State.resumeOne_raised (hs : s.sense.supply.state ≠ .sag) {ls : List LaneId} (hl : l ∉ ls) :
    (s.resumeOne l).raised ls = s.raised ls := by
  unfold State.raised
  congr 1
  refine List.filter_congr fun k hk => ?_
  have other : k ≠ l := fun own => hl (own ▸ hk)
  unfold State.raises
  rw [State.resumeOne_other hs other, State.resumeOne_outstanding hs other,
    show (s.resumeOne l).power = s.power from s.resumeOne_resumed l .power (by decide)]

/-- The marks of one lane and then of those behind it. -/
theorem State.resumeOne_woken (hs : s.sense.supply.state ≠ .sag) (ls : List LaneId) (k : LaneId) :
    s.Woken [l] k ∨ (s.resumeOne l).Woken ls k ↔ s.Woken (l :: ls) k := by
  unfold State.Woken
  rw [State.resumeOne_paused hs, List.mem_singleton, List.mem_cons]
  tauto

/-- A lane that has a turn and resumes marks its own job. -/
theorem State.renewed_engine (h : s.lanes[l].state = .paused) :
    (s.renewed l).engine = s.engine.markWhere (s.Woken [l]) := by
  refine (s.engine.markStale_eq l).trans (s.engine.markWhere_congr fun k => ?_)
  exact ⟨fun own => ⟨List.mem_singleton.2 own, own ▸ h⟩, fun woken => List.mem_singleton.1 woken.1⟩

theorem State.resumeOne_asks (hs : s.sense.supply.state ≠ .sag) (h : s.raises l = true) :
    s.resumeOne l = (s.renewed l).request l := by
  obtain ⟨active, paused, buffered, -⟩ := of_decide_eq_true h
  unfold State.resumeOne
  rw [if_pos paused, State.resumeLane_eq hs, if_pos ⟨buffered, active⟩]

/-- A lane that asks for no job has its outstanding one marked at most. -/
theorem State.resumeOne_quiet (hs : s.sense.supply.state ≠ .sag) (h : s.raises l = false) :
    (s.resumeOne l).engine = s.engine.markWhere (s.Woken [l]) := by
  unfold State.resumeOne
  by_cases hp : s.lanes[l].state = .paused
  · rw [if_pos hp, State.resumeLane_eq hs, ← State.renewed_engine hp]
    split_ifs with ha
    · have outstanding : (s.renewed l).engine.outstanding l = true := by
        refine (s.engine.markStale_outstanding l l).trans ?_
        by_contra none
        exact of_decide_eq_false h ⟨ha.2, hp, ha.1, Bool.eq_false_iff.2 none⟩
      rw [State.request_outstanding outstanding]
    · rfl
  · have stays (k : LaneId) : ¬s.Woken [l] k := by
      rintro ⟨own, paused⟩
      obtain rfl := List.mem_singleton.1 own
      exact hp paused
    rw [if_neg hp, s.engine.markWhere_none stays]

theorem State.resumeOne_busy (hs : s.sense.supply.state ≠ .sag) {j : Job} (hj : s.engine.job = some j) :
    (s.resumeOne l).engine = (s.engine.markWhere (s.Woken [l])).raise (s.raised [l]) := by
  cases h : s.raises l with
  | false => rw [State.resumeOne_quiet hs h, State.raised_none h, Engine.raise_nil]
  | true =>
    obtain ⟨-, paused, -, free⟩ := of_decide_eq_true h
    have unasked : (s.renewed l).engine.outstanding l = false := (s.engine.markStale_outstanding l l).trans free
    have working : (s.renewed l).engine.job = some (if j.lane = l then { j with stale := true } else j) := by
      show s.engine.job.map _ = _
      rw [hj]
      rfl
    rw [State.resumeOne_asks hs h, State.request_busy unasked working, State.raised_one h, ← State.renewed_engine paused,
      ← working]
    rfl

/-- On a busy engine the jobs outstanding are marked, and the requests join the queue in the order of the resumes. -/
theorem State.resumePaused_busy : ∀ (ls : List LaneId) {s : State} {j : Job}, ls.Nodup →
    s.sense.supply.state ≠ .sag → s.engine.job = some j →
    (s.resumePaused ls).engine = (s.engine.markWhere (s.Woken ls)).raise (s.raised ls) := by
  intro ls
  induction ls with
  | nil =>
    intro s j _ _ _
    rw [s.engine.markWhere_none fun k woken => nomatch woken.1]
    exact s.engine.raise_nil.symm
  | cons l ls ih =>
    intro s j hn hs hj
    obtain ⟨hl, hn⟩ := List.nodup_cons.1 hn
    have turn := State.resumeOne_busy (l := l) hs hj
    have working : (s.resumeOne l).engine.job = some (if s.Woken [l] j.lane then { j with stale := true } else j) := by
      rw [turn]
      show s.engine.job.map _ = _
      rw [hj]
      rfl
    have unmarked (r : Request) (hr : r ∈ s.raised [l]) : ¬(s.resumeOne l).Woken ls r.lane := fun woken =>
      hl (State.raised_lane hr ▸ woken.1)
    rw [State.resumePaused_cons, ih hn (State.resumeOne_supplied hs l) working, turn, Engine.raise_markWhere _ unmarked,
      Engine.raise_raise, Engine.markWhere_markWhere, Engine.markWhere_congr _ (State.resumeOne_woken hs ls),
      State.resumeOne_raised hs hl, ← State.raised_cons]

/-- On an idle engine the first request is the job at once. -/
theorem State.resumePaused_idle : ∀ (ls : List LaneId) {s : State}, ls.Nodup → s.sense.supply.state ≠ .sag →
    s.engine = ⟨[], none⟩ →
    (s.resumePaused ls).engine = ⟨(s.raised ls).tail, (s.raised ls).head?.map (s.resumePaused ls).newJob⟩ := by
  intro ls
  induction ls with
  | nil => exact fun _ _ he => he
  | cons l ls ih =>
    intro s hn hs he
    obtain ⟨hl, hn⟩ := List.nodup_cons.1 hn
    have idle : s.engine.markWhere (s.Woken [l]) = ⟨[], none⟩ := by
      rw [he]
      rfl
    rw [State.resumePaused_cons, State.raised_cons]
    cases h : s.raises l with
    | false =>
      have turn := (State.resumeOne_quiet hs h).trans idle
      rw [ih hn (State.resumeOne_supplied hs l) turn, State.resumeOne_raised hs hl, State.raised_none h]
      rfl
    | true =>
      obtain ⟨-, paused, -, -⟩ := of_decide_eq_true h
      have turn : (s.resumeOne l).engine = ⟨[], some ((s.renewed l).newJob ⟨l, false⟩)⟩ := by
        rw [State.resumeOne_asks hs h, State.request_idle ((State.renewed_engine paused).trans idle)]
      have after : (s.renewed l).Resumed ((s.resumeOne l).resumePaused ls) := by
        rw [State.resumeOne_asks hs h]
        exact (State.ChangesOnly.request _ l).trans (State.resumePaused_resumed _ ls)
      have kept : ((s.resumeOne l).resumePaused ls).lanes[l] = (s.renewed l).lanes[l] := by
        rw [State.resumePaused_lane l ls (State.resumeOne_supplied hs l), if_neg fun again => hl again.1,
          State.resumeOne_lane hs, if_pos ⟨rfl, paused⟩, State.renewed_lane]
      have unmarked : ¬(s.resumeOne l).Woken ls l := fun woken => hl woken.1
      rw [State.resumePaused_busy ls hn (State.resumeOne_supplied hs l) (congrArg Engine.job turn), turn,
        State.resumeOne_raised hs hl, State.raised_one h]
      refine congrArg (fun j => Engine.mk (s.raised ls) (some j)) ?_
      exact (if_neg unmarked).trans (after.newJob (r := ⟨l, false⟩) kept).symm

/-- Outside ACTIVE no lane asks for a job. -/
theorem State.resumePaused_asksNone : ∀ (ls : List LaneId) {s : State}, s.sense.supply.state ≠ .sag →
    s.power.state ≠ .active → (s.resumePaused ls).engine.lanes = s.engine.lanes := by
  intro ls
  induction ls with
  | nil => exact fun _ _ => rfl
  | cons l ls ih =>
    intro s hs hp
    have power : (s.resumeOne l).power = s.power := s.resumeOne_resumed l .power (by decide)
    have quiet : s.raises l = false := decide_eq_false fun asks => hp asks.1
    rw [State.resumePaused_cons, ih (State.resumeOne_supplied hs l) (by rw [power]; exact hp)]
    unfold State.resumeOne
    rw [State.resumeLane_eq hs, if_neg fun asks : _ ∧ _ => hp asks.2]
    split_ifs
    · exact s.engine.markStale_lanes l
    · rfl

/-! ### The order of the resumes (log 11) -/

theorem resumeOrder_eq (first : List LaneId) :
    resumeOrder first = first ++ (List.finRange 4).filter fun l => decide (l ∉ first) := by
  unfold resumeOrder
  simp

theorem mem_resumeOrder (first : List LaneId) (l : LaneId) : l ∈ resumeOrder first := by
  rw [resumeOrder_eq]
  simp [em]

theorem resumeOrder_nodup {first : List LaneId} (h : first.Nodup) : (resumeOrder first).Nodup := by
  rw [resumeOrder_eq]
  refine h.append ((List.nodup_finRange 4).filter _) fun l hl hr => ?_
  exact of_decide_eq_true (List.mem_filter.1 hr).2 hl

end

end Sys2Proof.Machine
end

section
/-! PROOF of O50: the supply machine and the band machine, their notices, what follows a sag, and the whole sense tick
(R153 to R162). -/

namespace Sys2Proof.Machine

/-! ### The two machines (R155, R159, R161) -/

theorem persist_decide (n : Nat) (p : Prop) [Decidable p] : persist n (decide p) = if p then min 15 (n + 1) else 0 := by
  unfold persist
  simp only [decide_eq_true_eq]

section

variable {x : SupplyRec} {v : Nat}

theorem SupplyRec.counted_eq (x : SupplyRec) (v : Nat) :
    x.counted v =
      { x with
        low := if v < x.sagBelow then min 15 (x.low + 1) else 0
        inside := if x.sagBelow ≤ v ∧ v ≤ x.highAbove then min 15 (x.inside + 1) else 0
        high := if x.highAbove < v then min 15 (x.high + 1) else 0 } := by
  unfold SupplyRec.counted
  simp only [persist_decide]

theorem SupplyRec.sample_keeps (h : (x.counted v).nextState = x.state) : x.sample v = x.counted v := if_pos h

theorem SupplyRec.sample_moves (h : (x.counted v).nextState ≠ x.state) :
    x.sample v = { x with state := (x.counted v).nextState, low := 0, inside := 0, high := 0 } := if_neg h

end

section

variable {x : BandRec} {code : Nat}

/-- The count of a candidate after a sample that indicates it. -/
def BandRec.countOf (x : BandRec) (b : BandName) : Nat := if x.candidate = some b then min 15 (x.count + 1) else 1

theorem BandRec.sample_same (h : x.indicated code = x.band) : x.sample code = { x with candidate := none, count := 0 } := by
  unfold BandRec.sample BandRec.counted
  rw [if_pos h]
  rfl

theorem BandRec.counted_other (h : x.indicated code ≠ x.band) :
    x.counted code = { x with candidate := some (x.indicated code), count := x.countOf (x.indicated code) } := by
  unfold BandRec.counted BandRec.countOf
  rw [if_neg h]
  by_cases seen : x.candidate = some (x.indicated code)
  · rw [if_pos seen, if_pos seen, ← seen]
  · rw [if_neg seen, if_neg seen]

theorem BandRec.sample_waits (h : x.indicated code ≠ x.band) (hc : x.countOf (x.indicated code) < x.persistence) :
    x.sample code = { x with candidate := some (x.indicated code), count := x.countOf (x.indicated code) } := by
  unfold BandRec.sample
  rw [BandRec.counted_other h]
  exact if_neg (Nat.not_le.2 hc)

theorem BandRec.sample_enters (h : x.indicated code ≠ x.band) (hc : x.persistence ≤ x.countOf (x.indicated code)) :
    x.sample code = { x with band := x.indicated code, candidate := none, count := 0 } := by
  unfold BandRec.sample
  rw [BandRec.counted_other h]
  exact if_pos hc

end

/-! ### A change of the supply state (R149, R159, R160) -/

section

variable {s : State} {code : BitVec 12} {ch : Choices}

theorem State.senseDue_of (hp : s.power.state ≠ .standby) (h9 : s.sense.phase = 9) (ht : .sense ∉ s.clocks.taken) :
    s.senseDue = true := by
  unfold State.senseDue
  rw [State.awake_of hp, decide_eq_true h9, decide_eq_true ht]
  rfl

/-- The supply has entered a state at the coming tick, and its notice is posted. -/
def State.supplyEntered (s : State) (code : BitVec 12) (new : SupplyState) : State :=
  { s with
    sense := { s.sense with
               codes := s.sense.codes.put 5 (some code)
               supply := { s.sense.supply with state := new, low := 0, inside := 0, high := 0 } }
    link := s.link.post .supplyState
      (u8 s.sense.supply.state.code ++ u8 new.code ++ u16 (millivolts code))
    clocks := { s.clocks with
                now := max s.clocks.now s.clocks.deviceDue
                taken := .channel 5 :: s.clocks.taken } }

/-- The supply enters another state; where it leaves SAG, the PAUSED lanes resume. -/
theorem exec_supplyStateChange {new : SupplyState} (hp : s.power.state ≠ .standby) (h9 : s.sense.phase = 9)
    (ht : .sense ∉ s.clocks.taken) (hc : .channel 5 ∉ s.clocks.taken)
    (next : (s.sense.supply.counted (millivolts code)).nextState = new) (moves : new ≠ s.sense.supply.state) :
    exec (.supplyStateChange code ch) s = .next
      (if s.sense.supply.state = .sag then (s.supplyEntered code new).resumePaused (resumeOrder ch.lanesFirst)
       else s.supplyEntered code new) := by
  subst next
  have sampled := SupplyRec.sample_moves moves
  have due : s.supplyChanges code = true := by
    unfold State.supplyChanges
    rw [State.senseDue_of hp h9 ht, sampled]
    exact decide_eq_true moves
  show Host.Outcome.next (s.ahead _ _ _) = _
  rw [State.ahead_due due hc]
  unfold State.sampleSupply
  dsimp only
  rw [sampled, ← State.resumeWhere_paused]
  exact congrArg Host.Outcome.next (if_neg moves)

end

/-! ### What follows a sag (R150, R185; log 11) -/

section

variable {s : State} {first : List LaneId}

theorem State.woken_iff {l : LaneId} : s.Woken (resumeOrder first) l ↔ s.lanes[l].state = .paused :=
  and_iff_right (mem_resumeOrder first l)

/-- Every PAUSED lane resumes. -/
theorem State.resumedAll_lane (hs : s.sense.supply.state ≠ .sag) (l : LaneId) :
    (s.resumePaused (resumeOrder first)).lanes[l] =
      if s.lanes[l].state = .paused then s.resumedLane l else s.lanes[l] := by
  rw [State.resumePaused_lane l _ hs]
  simp only [mem_resumeOrder, true_and]

/-- The requests of the lanes that resume, in the order in which they do. -/
theorem State.raised_resumeOrder :
    s.raised (resumeOrder first) =
      ((first ++ (List.finRange 4).filter fun l => decide (l ∉ first)).filter fun l =>
        decide (s.power.state = .active ∧ s.lanes[l].state = .paused ∧ s.lanes[l].latency = .buffered ∧
          (∀ r ∈ s.engine.queue, r.lane ≠ l) ∧ ∀ j ∈ s.engine.job, j.lane ≠ l)).map fun l => ⟨l, false⟩ := by
  unfold State.raised
  rw [resumeOrder_eq]
  refine congrArg (List.map _) (List.filter_congr fun l _ => ?_)
  unfold State.raises
  simp only [Engine.outstanding_eq_false]

theorem State.resumedAll_busy (hs : s.sense.supply.state ≠ .sag) (hn : first.Nodup) {j : Job} (hj : s.engine.job = some j) :
    (s.resumePaused (resumeOrder first)).engine =
      ⟨(s.engine.queue.map fun r => if s.lanes[r.lane].state = .paused then { r with stale := true } else r) ++
          s.raised (resumeOrder first),
        some (if s.lanes[j.lane].state = .paused then { j with stale := true } else j)⟩ := by
  rw [State.resumePaused_busy _ (resumeOrder_nodup hn) hs hj, s.engine.markWhere_congr fun k => s.woken_iff]
  unfold Engine.raise Engine.markWhere
  rw [hj]
  rfl

end

/-! ### The entry to a band (R161, R162) -/

section

variable {s : State} {code : BitVec 12} {ch : Choices}

/-- The band machine has entered a band at the coming tick. -/
def State.bandEntered (s : State) (code : BitVec 12) (new : BandName) : State :=
  { s with
    sense := { s.sense with
               codes := s.sense.codes.put 4 (some code)
               band := { s.sense.band with band := new, candidate := none, count := 0 } }
    clocks := { s.clocks with
                now := max s.clocks.now s.clocks.deviceDue
                taken := .channel 4 :: s.clocks.taken } }

theorem exec_bandEntry {new : BandName} (hp : s.power.state ≠ .standby) (h9 : s.sense.phase = 9)
    (ht : .sense ∉ s.clocks.taken) (hc : .channel 4 ∉ s.clocks.taken) (moves : new ≠ s.sense.band.band)
    (seen : s.sense.band.indicated code.toNat = new) (count : s.sense.band.persistence ≤ s.sense.band.countOf new) :
    let fields := u8 s.sense.band.band.code ++ u8 new.code ++ u16 code.toNat
    exec (.bandEntry code ch) s = .next
      (if ch.triggerFirst then ((s.bandEntered code new).applyEvent (sourceBand new)).post .band fields
       else ((s.bandEntered code new).post .band fields).applyEvent (sourceBand new)) := by
  intro fields
  subst seen
  have sampled := BandRec.sample_enters moves count
  have due : s.bandChanges code = true := by
    unfold State.bandChanges
    rw [State.senseDue_of hp h9 ht, sampled]
    exact decide_eq_true moves
  show Host.Outcome.next (s.ahead _ _ _) = _
  rw [State.ahead_due due hc]
  unfold State.sampleAmbient
  dsimp only
  rw [sampled]
  exact congrArg Host.Outcome.next (if_neg moves)

end

/-! ### The samples of a sense tick (R153, R154) -/

/-- What a sample of one channel makes of the sense monitor. -/
def SenseMonitor.sampled (k : SenseMonitor) (c : ChannelId) (code : BitVec 12) : SenseMonitor :=
  { k with
    codes := k.codes.put c (some code)
    thermal :=
      if h : c.val < 4 then k.thermal.put ⟨c.val, h⟩ (k.thermal[(⟨c.val, h⟩ : LaneId)].sample (tempOf code)) else k.thermal
    supply := if c = 5 then k.supply.sample (millivolts code) else k.supply
    band := if c = 4 then k.band.sample code.toNat else k.band }

section

variable (k : SenseMonitor) (c : ChannelId) (code : BitVec 12)

theorem SenseMonitor.sampled_code (d : ChannelId) :
    (k.sampled c code).codes[d] = if c = d then some code else k.codes[d] := Tab.get_put ..

theorem SenseMonitor.sampled_thermal (l : LaneId) :
    (k.sampled c code).thermal[l] =
      if c = laneChannel l then k.thermal[l].sample (tempOf code) else k.thermal[l] := by
  unfold SenseMonitor.sampled
  dsimp only
  by_cases h : c.val < 4
  · rw [dif_pos h, Tab.get_put]
    by_cases own : c = laneChannel l
    · subst own
      rw [if_pos rfl]
      exact if_pos rfl
    · have other : (⟨c.val, h⟩ : LaneId) ≠ l := fun same => own (Fin.ext (congrArg Fin.val same :))
      rw [if_neg other, if_neg own]
  · have other : c ≠ laneChannel l := fun own => h (own ▸ l.isLt)
    rw [dif_neg h, if_neg other]

end

section

variable (s : State) (c : ChannelId) (code : BitVec 12) (ch : Choices)

theorem State.sampleThermal_sense (l : LaneId) :
    (s.sampleThermal l code).sense =
      { s.sense with
        codes := s.sense.codes.put (laneChannel l) (some code)
        thermal := s.sense.thermal.put l (s.sense.thermal[l].sample (tempOf code)) } := by
  unfold State.sampleThermal
  dsimp only
  split_ifs <;> rfl

theorem State.sampleAmbient_sense :
    (s.sampleAmbient code ch).sense =
      { s.sense with codes := s.sense.codes.put 4 (some code), band := s.sense.band.sample code.toNat } := by
  have applied (t : State) (e : SourceId) : (t.applyEvent e).sense = t.sense := State.ChangesOnly.applyEvent t e .sense (by decide)
  unfold State.sampleAmbient
  dsimp only
  split_ifs
  · rfl
  · exact applied _ _
  · exact applied _ _

theorem State.sampleSupply_sense :
    (s.sampleSupply code ch).sense =
      { s.sense with codes := s.sense.codes.put 5 (some code), supply := s.sense.supply.sample (millivolts code) } := by
  unfold State.sampleSupply
  dsimp only
  split_ifs
  · rfl
  · exact State.ChangesOnly.resumeWhere _ _ _ .sense (by decide)
  · rfl

theorem State.sampleChannel_sense : (s.sampleChannel c code ch).sense = s.sense.sampled c code := by
  unfold State.sampleChannel SenseMonitor.sampled
  by_cases lane : c.val < 4
  · have ambient : c ≠ 4 := fun own => absurd lane (own ▸ by decide)
    have supply : c ≠ 5 := fun own => absurd lane (own ▸ by decide)
    rw [dif_pos lane, dif_pos lane, if_neg ambient, if_neg supply]
    exact s.sampleThermal_sense code ⟨c.val, lane⟩
  · rw [dif_neg lane, dif_neg lane]
    by_cases ambient : c = 4
    · subst ambient
      exact s.sampleAmbient_sense code ch
    · have supply : c = 5 := by
        have other : c.val ≠ 4 := fun own => ambient (Fin.ext own)
        exact Fin.ext (show c.val = 5 by omega)
      subst supply
      exact s.sampleSupply_sense code ch

/-- A channel of a sense tick that is not yet taken is sampled. -/
theorem State.takeChannel_eq {s : State} {c : ChannelId} (codes : Tab (BitVec 12) 6) (ch : Choices)
    (hp : s.power.state ≠ .standby) (h9 : s.sense.phase = 9) (hc : .channel c ∉ s.clocks.taken) :
    s.takePart (.channel c) (fun u => u.partChannel c codes ch) =
      (s.setClocks { s.clocks with taken := .channel c :: s.clocks.taken }).sampleChannel c codes[c] ch := by
  let t := s.setClocks { s.clocks with taken := .channel c :: s.clocks.taken }
  have due : (t.awake && decide (t.sense.phase = 9)) = true :=
    Bool.and_eq_true_iff.2 ⟨State.awake_of (s := t) hp, decide_eq_true h9⟩
  rw [State.takePart_free hc]
  exact if_pos due

/-- The channels that are not yet taken are sampled one after another. -/
theorem State.sampleRest_sense (codes : Tab (BitVec 12) 6) (hp : s.power.state ≠ .standby) (h9 : s.sense.phase = 9)
    (hc : ∀ c : ChannelId, .channel c ∉ s.clocks.taken) :
    (s.sampleRest codes ch).sense = (List.finRange 6).foldl (fun k c => k.sampled c codes[c]) s.sense := by
  have each : ∀ (cs : List ChannelId) (u : State), cs.Nodup → u.power.state ≠ .standby → u.sense.phase = 9 →
      (∀ c ∈ cs, .channel c ∉ u.clocks.taken) →
      (cs.foldl (fun t c => t.takePart (.channel c) fun u => u.partChannel c codes ch) u).sense =
        cs.foldl (fun k c => k.sampled c codes[c]) u.sense := by
    intro cs
    induction cs with
    | nil => exact fun _ _ _ _ _ => rfl
    | cons c cs ih =>
      intro u hn hp h9 free
      obtain ⟨hc, hn⟩ := List.nodup_cons.1 hn
      let v := u.setClocks { u.clocks with taken := .channel c :: u.clocks.taken }
      have only := State.ChangesOnly.sampleChannel v c codes[c] ch
      have power : (v.sampleChannel c codes[c] ch).power = u.power := only .power (by decide)
      have clocks : (v.sampleChannel c codes[c] ch).clocks = v.clocks := only .clocks (by decide)
      have sense : (v.sampleChannel c codes[c] ch).sense = u.sense.sampled c codes[c] := v.sampleChannel_sense c codes[c] ch
      rw [List.foldl_cons, List.foldl_cons, State.takeChannel_eq codes ch hp h9 (free c List.mem_cons_self), ← sense]
      refine ih _ hn (by rw [power]; exact hp) (by rw [sense]; exact h9) fun d hd taken => ?_
      rw [clocks] at taken
      obtain own | before := List.mem_cons.1 taken
      · obtain rfl := TickPart.channel.inj own
        exact hc hd
      · exact free d (List.mem_cons_of_mem c hd) before
  exact each _ s (List.nodup_finRange 6) hp h9 fun c _ => hc c

end

/-! ### One turn of each channel -/

section

variable {σ α β : Type} [DecidableEq β] {step : σ → β → σ} {read : σ → α} {f : α → α} {d : β}

/-- What only the turn of `d` changes stays as it is where `d` has none. -/
theorem foldl_no_turn (h : ∀ k c, read (step k c) = if c = d then f (read k) else read k) :
    ∀ (cs : List β) (k : σ), d ∉ cs → read (cs.foldl step k) = read k := by
  intro cs
  induction cs with
  | nil => exact fun _ _ => rfl
  | cons c cs ih =>
    intro k hd
    obtain ⟨hc, hd⟩ := not_or.1 (mt List.mem_cons.2 hd)
    rw [List.foldl_cons, ih (step k c) hd, h, if_neg (Ne.symm hc)]

/-- What only the turn of `d` changes has changed once where `d` has one turn. -/
theorem foldl_one_turn (h : ∀ k c, read (step k c) = if c = d then f (read k) else read k) :
    ∀ (cs : List β) (k : σ), cs.Nodup → d ∈ cs → read (cs.foldl step k) = f (read k) := by
  intro cs
  induction cs with
  | nil => exact fun _ _ none => nomatch none
  | cons c cs ih =>
    intro k hn hd
    obtain ⟨hc, hn⟩ := List.nodup_cons.1 hn
    rw [List.foldl_cons]
    by_cases own : c = d
    · rw [foldl_no_turn h cs (step k c) (own ▸ hc), h, if_pos own]
    · have later : d ∈ cs := List.mem_of_ne_of_mem (Ne.symm own) hd
      rw [ih (step k c) hn later, h, if_neg own]

end

section

variable (k : SenseMonitor) (codes : Tab (BitVec 12) 6)

/-- The sense monitor after a sample of every channel. -/
def SenseMonitor.sampledAll : SenseMonitor := (List.finRange 6).foldl (fun k c => k.sampled c codes[c]) k

theorem SenseMonitor.sampledAll_code (c : ChannelId) : (k.sampledAll codes).codes[c] = some codes[c] := by
  refine foldl_one_turn (read := fun k : SenseMonitor => k.codes[c]) (f := fun _ => some codes[c]) (d := c) (fun k d => ?_)
    _ k (List.nodup_finRange 6) (List.mem_finRange c)
  rw [SenseMonitor.sampled_code]
  split_ifs with own
  · rw [own]
  · rfl

theorem SenseMonitor.sampledAll_thermal (l : LaneId) :
    (k.sampledAll codes).thermal[l] = k.thermal[l].sample (tempOf codes[laneChannel l]) := by
  refine foldl_one_turn (read := fun k : SenseMonitor => k.thermal[l])
    (f := fun x => x.sample (tempOf codes[laneChannel l])) (d := laneChannel l) (fun k d => ?_)
    _ k (List.nodup_finRange 6) (List.mem_finRange (laneChannel l))
  rw [SenseMonitor.sampled_thermal]
  split_ifs with own
  · rw [own]
  · rfl

theorem SenseMonitor.sampledAll_supply :
    (k.sampledAll codes).supply = k.supply.sample (millivolts codes[(5 : ChannelId)]) := by
  refine foldl_one_turn (read := SenseMonitor.supply) (f := fun x => x.sample (millivolts codes[(5 : ChannelId)])) (d := 5)
    (fun k d => ?_) _ k (List.nodup_finRange 6) (List.mem_finRange 5)
  unfold SenseMonitor.sampled
  dsimp only
  split_ifs with own
  · rw [own]
  · rfl

theorem SenseMonitor.sampledAll_band : (k.sampledAll codes).band = k.band.sample codes[(4 : ChannelId)].toNat := by
  refine foldl_one_turn (read := SenseMonitor.band) (f := fun x => x.sample codes[(4 : ChannelId)].toNat) (d := 4)
    (fun k d => ?_) _ k (List.nodup_finRange 6) (List.mem_finRange 4)
  unfold SenseMonitor.sampled
  dsimp only
  split_ifs with own
  · rw [own]
  · rfl

end

/-- A sense tick of which no channel is taken samples them all, and starts the phase again. -/
theorem exec_senseTick {s : State} {codes : Tab (BitVec 12) 6} {ch : Choices} (hp : s.power.state ≠ .standby)
    (h9 : s.sense.phase = 9) (ht : .sense ∉ s.clocks.taken) (hc : ∀ c : ChannelId, .channel c ∉ s.clocks.taken) :
    ∃ t : State, exec (.senseTick codes ch) s = .next t ∧ t.sense = { s.sense.sampledAll codes with phase := 0 } := by
  let u : State :=
    { s with
      clocks := { s.clocks with
                  now := max s.clocks.now s.clocks.deviceDue
                  taken := .sense :: s.clocks.taken } }
  have awake : u.awake = true := State.awake_of (s := u) hp
  have due : s.senseTickDue = true := Bool.and_eq_true_iff.2 ⟨State.awake_of hp, decide_eq_true h9⟩
  have free (c : ChannelId) : .channel c ∉ u.clocks.taken := fun taken => by
    obtain own | before := List.mem_cons.1 taken
    · exact TickPart.noConfusion own
    · exact hc c before
  have run : u.partSense codes ch = (u.sampleRest codes ch).setSense { (u.sampleRest codes ch).sense with phase := 0 } :=
    (if_pos awake).trans (if_pos h9)
  refine ⟨u.partSense codes ch, congrArg Host.Outcome.next (State.ahead_due due ht), ?_⟩
  rw [run, State.setSense, State.sampleRest_sense u ch codes hp h9 free]
  rfl

/-- Settles O50: each machine by the case of its own table; a sag that ends by the resumes of the PAUSED lanes, one after another in
their order; a band entered and a sense tick by the samples of their channels. -/
theorem supplyAndBandFollowTheirTables : Obligations.SupplyAndBandFollowTheirTables := by
  unfold Obligations.SupplyAndBandFollowTheirTables
  refine ⟨?supply, ?band, ?supplyChange, ?bandEntry, ?senseTick⟩
  case supply =>
    intro x mv low inside high new
    have counted : x.counted mv = { x with low := low, inside := inside, high := high } := x.counted_eq mv
    have next : (x.counted mv).nextState = new := by
      rw [counted]
      rfl
    refine ⟨fun keeps => (SupplyRec.sample_keeps (next.trans keeps)).trans counted, fun moves => ?_⟩
    rw [SupplyRec.sample_moves (by rw [next]; exact moves), next]
  case band =>
    intro x code seen count
    exact ⟨BandRec.sample_same, BandRec.sample_waits, BandRec.sample_enters⟩
  case supplyChange =>
    intro s code ch hp h9 ht hc x mv low inside high new changed
    have counted : x.counted mv = { x with low := low, inside := inside, high := high } := x.counted_eq mv
    have next : (x.counted mv).nextState = new := by
      rw [counted]
      rfl
    have step (moves : new ≠ x.state) := exec_supplyStateChange (ch := ch) hp h9 ht hc next moves
    have left (moves : new ≠ x.state) (sag : x.state = .sag) :
        changed.sense.supply.state ≠ .sag ∧
          exec (.supplyStateChange code ch) s = .next (changed.resumePaused (resumeOrder ch.lanesFirst)) := by
      refine ⟨sag ▸ moves, ?_⟩
      rw [step moves, if_pos sag]
      rfl
    let t := changed.resumePaused (resumeOrder ch.lanesFirst)
    have frame : t = { changed with lanes := t.lanes, engine := t.engine } :=
      (changed.resumePaused_resumed (resumeOrder ch.lanesFirst)).eq
    refine ⟨fun moves sag => ?_, fun moves sag running => ?_, fun moves sag _ hn => ?_⟩
    · rw [step moves, if_neg sag]
      rfl
    · obtain ⟨hs, run⟩ := left moves sag
      refine ⟨t, run, frame, fun l paused => ?_, fun l other => ?_, fun waking => ?_⟩
      · rw [State.resumedAll_lane hs, if_pos paused]
        exact changed.resumedLane_state l
      · rw [State.resumedAll_lane hs]
        exact if_neg other
      · have quiet : changed.power.state ≠ .active := waking ▸ by decide
        exact State.resumePaused_asksNone _ hs quiet
    · obtain ⟨hs, run⟩ := left moves sag
      have dark_iff (l : LaneId) : changed.DarkOnResume l ↔
          s.power.state = .sleeping ∧ (∃ m, s.link.inDispatch = some (.sleep m true)) ∧ s.lanes[l].darkSent = false := by
        unfold State.DarkOnResume
        rw [State.sleepsDark_iff, LinkState.post_inDispatch]
      have resumed (l : LaneId) (paused : s.lanes[l].state = .paused) : t.lanes[l] = changed.resumedLane l :=
        (State.resumedAll_lane hs l).trans (if_pos paused)
      refine ⟨t, run, frame, fun j hj => ?_, fun idle => ?_, fun l => ⟨fun other => ?_, fun paused plain => ?_,
        fun paused dark busy => ?_, fun paused dark idle => ?_⟩⟩
      · rw [State.resumedAll_busy hs hn hj, State.raised_resumeOrder]
      · rw [State.resumePaused_idle _ (resumeOrder_nodup hn) hs idle, State.raised_resumeOrder]
      · exact (State.resumedAll_lane hs l).trans (if_neg other)
      · exact (resumed l paused).trans (State.resumedLane_plain (mt (dark_iff l).1 plain))
      · exact (resumed l paused).trans (State.resumedLane_owes ((dark_iff l).2 dark) busy)
      · have sends := (resumed l paused).trans (State.resumedLane_sends ((dark_iff l).2 dark) idle)
        obtain ⟨f, isDark, sent⟩ :=
          (changed.lanes[l].entering changed.clocks.now .starting).sendDark_eq changed.clocks.now (changed.blanks l)
        refine ⟨f, ?_, isDark⟩
        rw [sends]
        exact sent
  case bandEntry =>
    intro s code ch new hp h9 ht hc x indicated fields entered moves seen count
    have persists : x.persistence ≤ x.countOf new := by
      unfold BandRec.countOf
      obtain ⟨own, enough⟩ | ⟨other, enough⟩ := count
      · rw [if_pos own]
        exact enough
      · rw [if_neg other]
        exact enough
    exact exec_bandEntry hp h9 ht hc moves seen persists
  case senseTick =>
    intro s codes ch hp h9 ht hc
    obtain ⟨t, run, sense⟩ := exec_senseTick (codes := codes) (ch := ch) hp h9 ht hc
    refine ⟨t, run, ?_⟩
    rw [sense]
    exact ⟨rfl, s.sense.sampledAll_code codes, s.sense.sampledAll_thermal codes, s.sense.sampledAll_supply codes,
      s.sense.sampledAll_band codes⟩

end Sys2Proof.Machine
end

section
/-! PROOF of O49: MONITOR_SET, the thermal machine of a lane, and the notice of its change (R155 to R158, R163). -/

namespace Sys2Proof.Machine

/-! ### MONITOR_SET (R163) -/

section

variable {s : State} {m : LinkMsg} {rest : List LinkMsg}

theorem cmdMonitorSet_range (s : State) (h : parseMonitorSet m.payload = none) :
    cmdMonitorSet m s = s.answer m .range [] := by
  unfold cmdMonitorSet
  rw [h]
  rfl

theorem cmdMonitorSet_ok {a : MonitorArgs} (s : State) (h : parseMonitorSet m.payload = some a) :
    cmdMonitorSet m s = (s.setSense (s.sense.configure a)).answer m .ok [] := by
  unfold cmdMonitorSet
  rw [h]
  rfl

/-- An accepted MONITOR_SET configures its machine and answers. -/
theorem exec_monitorSet_ok {a : MonitorArgs} (h : s.Takes kindMonitorSet lenMonitorSet m rest)
    (hp : parseMonitorSet m.payload = some a) :
    exec .monitorSet s = .next { s with sense := s.sense.configure a, link := s.link.answered rest m .ok [] } := by
  have order : (s.takeFront.setSense (s.sense.configure a)).answer m .ok [] =
      (s.takeFront.answer m .ok []).setSense (s.sense.configure a) := rfl
  have rule : cmdMonitorSet m s.takeFront = (s.takeFront.setSense (s.sense.configure a)).answer m .ok [] :=
    cmdMonitorSet_ok s.takeFront hp
  show Host.Outcome.next (s.dispatch kindMonitorSet lenMonitorSet false cmdMonitorSet) = _
  rw [State.dispatch_takes h, rule, order, h.answer]
  rfl

end

/-! ### The thermal machine (R155 to R157) -/

section

variable {x : ThermalRec} {t : Int}

theorem ThermalRec.counted_eq (x : ThermalRec) (t : Int) :
    x.counted t =
      { x with
        hot := if x.cutoffAt ≤ t then min 15 (x.hot + 1) else 0
        warm := if x.derateAt ≤ t then min 15 (x.warm + 1) else 0
        cool := if t < x.resumeBelow then min 15 (x.cool + 1) else 0 } := by
  unfold ThermalRec.counted
  simp only [persist_decide]

theorem ThermalRec.sample_keeps (h : (x.counted t).nextState = x.state) : x.sample t = x.counted t := if_pos h

theorem ThermalRec.sample_moves (h : (x.counted t).nextState ≠ x.state) :
    x.sample t = { x with state := (x.counted t).nextState, hot := 0, warm := 0, cool := 0 } := if_neg h

end

/-! ### A change of a lane's thermal state (R158) -/

/-- A lane has entered a thermal state at the coming tick, and its notice is posted. -/
def State.thermalEntered (s : State) (l : LaneId) (code : BitVec 12) (new : ThermalState) : State :=
  { s with
    sense := { s.sense with
               codes := s.sense.codes.put (laneChannel l) (some code)
               thermal := s.sense.thermal.put l { s.sense.thermal[l] with state := new, hot := 0, warm := 0, cool := 0 } }
    link := s.link.post .thermalState (thermalFields l s.sense.thermal[l].state new (tempOf code))
    clocks := { s.clocks with
                now := max s.clocks.now s.clocks.deviceDue
                taken := .channel (laneChannel l) :: s.clocks.taken } }

/-- The lane's machine enters another state. -/
theorem exec_thermalStateChange {s : State} {l : LaneId} {code : BitVec 12} {new : ThermalState}
    (hp : s.power.state ≠ .standby) (h9 : s.sense.phase = 9) (ht : .sense ∉ s.clocks.taken)
    (hc : .channel (laneChannel l) ∉ s.clocks.taken)
    (next : (s.sense.thermal[l].counted (tempOf code)).nextState = new) (moves : new ≠ s.sense.thermal[l].state) :
    exec (.thermalStateChange l code) s = .next (s.thermalEntered l code new) := by
  subst next
  have sampled := ThermalRec.sample_moves moves
  have due : s.thermalChanges l code = true := by
    unfold State.thermalChanges
    rw [State.senseDue_of hp h9 ht, sampled]
    exact decide_eq_true moves
  show Host.Outcome.next (s.ahead _ _ _) = _
  rw [State.ahead_due due hc]
  unfold State.sampleThermal
  dsimp only
  rw [sampled]
  exact congrArg Host.Outcome.next (if_neg moves)

/-- Settles O49: each machine is configured by one rule, and a thermal sample keeps or moves the state by the row that its counts
give. -/
theorem thermalMachineFollowsItsTable : Obligations.ThermalMachineFollowsItsTable := by
  unfold Obligations.ThermalMachineFollowsItsTable
  refine ⟨?monitorSet, ?sample, ?change⟩
  case monitorSet =>
    intro s m rest h configured
    exact ⟨fun l d c r p => exec_monitorSet_ok h, fun lo hi p => exec_monitorSet_ok h, fun d n p => exec_monitorSet_ok h,
      fun refused => h.answers rfl (cmdMonitorSet_range _ refused)⟩
  case sample =>
    intro x temp hot warm cool new
    have counted : x.counted temp = { x with hot := hot, warm := warm, cool := cool } := x.counted_eq temp
    have next : (x.counted temp).nextState = new := by
      rw [counted]
      rfl
    refine ⟨fun keeps => (ThermalRec.sample_keeps (next.trans keeps)).trans counted, fun moves => ?_⟩
    rw [ThermalRec.sample_moves (by rw [next]; exact moves), next]
  case change =>
    intro s l code hp h9 ht hc x temp hot warm cool new moves
    have counted : x.counted temp = { x with hot := hot, warm := warm, cool := cool } := x.counted_eq temp
    have next : (x.counted temp).nextState = new := by
      rw [counted]
      rfl
    exact exec_thermalStateChange hp h9 ht hc next moves

end Sys2Proof.Machine
end

section
/-! SUPPORT. The receive parser, byte by byte: how a byte moves the clock and the timer, what each parser state does with it, and
what a run of bytes with no gap gathers (R168 to R171). -/

namespace Sys2Proof.Machine

/-! ### The line after a byte -/

/-- The part with the parser in `p`, the last byte ended at `e` and the clock at `now`: all that hearing bytes alone changes. -/
def State.heard (s : State) (p : Parser) (e now : Nat) : State :=
  { s with link := { s.link with parser := p, lastByteEnd := e }, clocks := { s.clocks with now := now } }

theorem State.heard_setParser (s : State) (p q : Parser) (e now : Nat) :
    (s.heard p e now).setParser q = s.heard q e now := rfl

theorem State.heard_linkFault (s : State) (p : Parser) (e now : Nat) (c : LinkFaultCause) (n : Nat) :
    (s.heard p e now).linkFault c n =
      (s.heard .hunting e now).post .linkFault [BitVec.ofNat 8 c.code, BitVec.ofNat 8 n] := rfl

/-- Posting looks neither at the parser nor at the timer and the clock. -/
theorem State.post_heard (s : State) (kind : NoticeKind) (f : List Byte) (p : Parser) (e now : Nat) :
    (s.post kind f).heard p e now = (s.heard p e now).post kind f := by
  unfold State.post State.setLink State.heard LinkState.post
  dsimp only
  split_ifs <;> rfl

section

variable {s : State} {b : RxByte} {len : Byte} {got : List Byte} {e now n : Nat}

/-! ### The moves of the parser (R170) -/

/-- Where a byte that is judged in HUNTING leads. -/
def Parser.begun (b : RxByte) : Parser := if b.framingError = false ∧ b.data = 0xC3 then .length else .hunting

/-- The parser with these bytes received after LEN: the LEN byte counts them, and CHK follows the last. -/
def Parser.after (len : Byte) (got : List Byte) : Parser :=
  if got.length < len.toNat then .body len got else .checking len got

theorem State.parse_hunting (h : s.link.parser = .hunting) : s.parse b = s.setParser (.begun b) := by
  unfold State.parse Parser.begun
  rw [h]
  dsimp only
  split_ifs
  · rfl
  · unfold State.setParser
    rw [← h]
    rfl

theorem State.parse_length (h : s.link.parser = .length) :
    s.parse b =
      if b.framingError = false ∧ 2 ≤ b.data.toNat ∧ b.data.toNat ≤ 198 then s.setParser (.body b.data [])
      else s.linkFault .length 2 := by
  unfold State.parse
  rw [h]

theorem State.parse_body (h : s.link.parser = .body len got) :
    s.parse b =
      if b.framingError then s.linkFault .check (got.length + 3) else s.setParser (.after len (got ++ [b.data])) := by
  unfold State.parse Parser.after
  rw [h, List.length_append]
  dsimp only [List.length_singleton]
  split_ifs <;> rfl

theorem State.parse_good (h : s.link.parser = .checking len got) (hf : b.framingError = false)
    (hs : len + byteSum got + b.data = 0) : s.parse b = (s.setParser .hunting).goodMessage (messageOf got) := by
  unfold State.parse
  rw [h]
  exact if_pos ⟨hf, hs⟩

theorem State.parse_bad (h : s.link.parser = .checking len got)
    (hs : b.framingError = true ∨ len + byteSum got + b.data ≠ 0) :
    s.parse b = s.linkFault .check (got.length + 3) := by
  unfold State.parse
  rw [h]
  exact if_neg fun ⟨hf, sum⟩ => hs.elim (fun ht => Bool.noConfusion (hf.symm.trans ht)) (absurd sum)

/-! ### The inter-byte timer (R171) -/

/-- The start bit of the byte comes more than 2 ms after the last byte ended. -/
abbrev LinkState.Late (k : LinkState) (b : RxByte) : Prop := k.lastByteEnd + 2000 < b.endsAt - 40

theorem LinkState.gapBefore_iff {k : LinkState} : k.gapBefore b = true ↔ k.Late b := by
  rw [LinkState.gapBefore, decide_eq_true_eq, LinkState.Late]
  omega

theorem State.timeout_hunting (h : s.link.parser = .hunting) : s.timeout = s := by
  unfold State.timeout
  rw [h]
  rfl

theorem State.timeout_eq (h : s.link.parser.received = some n) :
    s.timeout =
      (s.heard .hunting s.link.lastByteEnd (max s.clocks.now (s.link.lastByteEnd + 2000))).post .linkFault
        [2, BitVec.ofNat 8 n] := by
  unfold State.timeout
  rw [h]
  rfl

/-- A byte in time is judged in the state in which the parser stands. -/
theorem State.receive_near (h : ¬s.link.Late b) :
    s.receive b = (s.heard s.link.parser b.endsAt (max s.clocks.now b.endsAt)).parse b := by
  unfold State.receive
  rw [if_neg (mt LinkState.gapBefore_iff.1 h)]
  rfl

/-- In HUNTING no timer runs. -/
theorem State.receive_hunting (h : s.link.parser = .hunting) :
    s.receive b = s.heard (.begun b) b.endsAt (max s.clocks.now b.endsAt) := by
  unfold State.receive
  rw [State.timeout_hunting h, ite_self]
  exact State.parse_hunting h

/-- A late byte finds TIMEOUT made, and is judged in HUNTING. -/
theorem State.receive_late (hl : s.link.Late b) (h : s.link.parser.received = some n) :
    s.receive b = (s.heard (.begun b) b.endsAt (max s.clocks.now b.endsAt)).post .linkFault [2, BitVec.ofNat 8 n] := by
  have clock : max (max s.clocks.now (s.link.lastByteEnd + 2000)) b.endsAt = max s.clocks.now b.endsAt := by omega
  unfold State.receive
  rw [if_pos (LinkState.gapBefore_iff.2 hl), State.timeout_eq h]
  refine (State.parse_hunting (LinkState.post_parser ..)).trans ?_
  show State.heard (State.post _ _ _) _ _ (max (max s.clocks.now (s.link.lastByteEnd + 2000)) b.endsAt) = _
  rw [clock, State.post_heard]
  rfl

/-! ### A run of bytes with no gap -/

/-- No gap of more than 2 ms lies between two bytes. -/
abbrev BytesNear (a b : RxByte) : Prop := b.endsAt - 40 ≤ a.endsAt + 2000

/-- A byte in time, as the part has heard those before it. -/
theorem State.heard_receive_near {p : Parser} (h : b.endsAt - 40 ≤ e + 2000) :
    (s.heard p e now).receive b = (s.heard p b.endsAt (max now b.endsAt)).parse b :=
  State.receive_near (s := s.heard p e now) (Nat.not_lt.2 h)

theorem State.receive_sof (h : s.link.parser = .hunting) (hf : b.framingError = false) (hd : b.data = 0xC3) :
    s.receive b = s.heard .length b.endsAt (max s.clocks.now b.endsAt) := by
  rw [State.receive_hunting h, Parser.begun, if_pos ⟨hf, hd⟩]

theorem State.receive_len {a : RxByte} (near : BytesNear a b) (hf : b.framingError = false) (hd : 2 ≤ b.data.toNat)
    (hd' : b.data.toNat ≤ 198) :
    (s.heard .length a.endsAt now).receive b = s.heard (.after b.data []) b.endsAt (max now b.endsAt) := by
  have counts : Parser.after b.data [] = .body b.data [] := if_pos (by rw [List.length_nil]; omega)
  rw [State.heard_receive_near near, State.parse_length rfl, if_pos ⟨hf, hd, hd'⟩, counts]
  rfl

/-- The bytes that LEN counts are gathered. -/
theorem State.receiveAll_gathers : ∀ (rx : List RxByte) (a : RxByte) (got : List Byte) (now : Nat),
    (a :: rx).IsChain BytesNear → (∀ b ∈ rx, b.framingError = false) → got.length + rx.length ≤ len.toNat →
    ∃ later, (s.heard (.after len got) a.endsAt now).receiveAll rx =
      s.heard (.after len (got ++ rx.map RxByte.data)) ((a :: rx).getLast (List.cons_ne_nil a rx)).endsAt later
  | [], a, got, now, _, _, _ => ⟨now, by rw [List.map_nil, List.append_nil]; rfl⟩
  | b :: rx, a, got, now, near, ok, fits => by
    obtain ⟨hab, hrx⟩ := List.isChain_cons_cons.1 near
    rw [List.length_cons] at fits
    have counted : Parser.after len got = .body len got := if_pos (by omega)
    have takes : (s.heard (.after len got) a.endsAt now).receive b =
        s.heard (.after len (got ++ [b.data])) b.endsAt (max now b.endsAt) := by
      rw [State.heard_receive_near hab, counted, State.parse_body rfl, if_neg (by rw [ok b List.mem_cons_self]; decide)]
      rfl
    obtain ⟨later, rest⟩ := State.receiveAll_gathers rx b (got ++ [b.data]) (max now b.endsAt) hrx
      (fun c hc => ok c (List.mem_cons_of_mem b hc)) (by rw [List.length_append, List.length_singleton]; omega)
    refine ⟨later, ?_⟩
    rw [List.getLast_cons_cons, List.map_cons, List.append_cons, ← rest, ← takes]
    rfl

/-- A whole message in time, from HUNTING: the parser judges the last byte in CHECKING, with all that LEN counts received. -/
theorem State.receiveAll_message {rx : List RxByte} {chk : Byte} {body : List Byte} (hp : s.link.parser = .hunting)
    (ok : ∀ b ∈ rx, b.framingError = false) (near : rx.IsChain BytesNear) (hlen : 2 ≤ len.toNat)
    (hlen' : len.toNat ≤ 198) (hbody : body.length = len.toNat)
    (hrx : rx.map RxByte.data = 0xC3 :: len :: (body ++ [chk])) :
    ∃ e now, ∃ last : RxByte, last.data = chk ∧ last.framingError = false ∧
      s.receiveAll rx = (s.heard (.checking len body) e now).parse last := by
  obtain ⟨sof, afterSof, rfl, hsof, hafter⟩ := List.map_eq_cons_iff.1 hrx
  obtain ⟨count, afterLen, rfl, rfl, hrest⟩ := List.map_eq_cons_iff.1 hafter
  obtain ⟨mid, tail, rfl, rfl, htail⟩ := List.map_eq_append_iff.1 hrest
  obtain ⟨last, rfl, hlast⟩ := List.map_eq_singleton_iff.1 htail
  obtain ⟨nearLen, nearRest⟩ := List.isChain_cons_cons.1 near
  obtain ⟨nearMid, -, nearLast⟩ := List.isChain_append (l₁ := count :: mid) |>.1 nearRest
  rw [List.length_map] at hbody
  obtain ⟨now, gathered⟩ := State.receiveAll_gathers (s := s) (len := count.data) mid count []
    (max (max s.clocks.now sof.endsAt) count.endsAt) nearMid (fun b hb => ok b (by simp [hb]))
    (by rw [List.length_nil]; omega)
  have complete : Parser.after count.data ([] ++ mid.map RxByte.data) = .checking count.data (mid.map RxByte.data) :=
    if_neg (by rw [List.nil_append, List.length_map]; omega)
  refine ⟨last.endsAt, max now last.endsAt, last, hlast, ok last (by simp), ?_⟩
  have whole : s.receiveAll (sof :: count :: (mid ++ [last])) =
      (((s.receive sof).receive count).receiveAll mid).receive last :=
    State.receiveAll_append mid [last] _
  rw [whole, State.receive_sof hp (ok sof (by simp)) hsof, State.receive_len nearLen (ok count (by simp)) hlen hlen',
    gathered, complete,
    State.heard_receive_near (nearLast _ (List.getLast_mem_getLast? (List.cons_ne_nil count mid)) last rfl)]

end

end Sys2Proof.Machine
end

section
/-! The rows of the receive parser: a byte, a whole message, a faulty one, and the timer (R170 to R172). -/

namespace Sys2Proof.Machine

section

variable {s : State} {m : LinkMsg}

/-! ### A good message (R172, R182, R186) -/

/-- The part with the parser where it was, the last byte ended at `e` and the clock at `now`. -/
def State.byteEnded (s : State) (e now : Nat) : State :=
  { s with link := { s.link with lastByteEnd := e }, clocks := { s.clocks with now := now } }

theorem State.heard_same {p : Parser} (h : s.link.parser = p) (e now : Nat) : s.heard p e now = s.byteEnded e now := by
  subst h
  rfl

/-- A message that joins the buffer starts WAKING in STANDBY, and changes no power state elsewhere. -/
theorem State.bufferMessage_eq (s : State) (m : LinkMsg) :
    s.bufferMessage m =
      { s with
        link := { s.link with buffer := s.link.buffer ++ [m] }
        clocks :=
          { s.clocks with
            taken := if s.power.state = .standby ∧ .sense ∈ s.clocks.taken then besidesLines ++ s.clocks.taken
              else s.clocks.taken }
        power := if s.power.state = .standby then ⟨.waking, some .message, 0, s.power.events⟩ else s.power } := by
  unfold State.bufferMessage
  by_cases standby : s.power.state = .standby
  · by_cases sensed : TickPart.sense ∈ s.clocks.taken
    · simp only [if_pos standby, if_pos (And.intro standby sensed)]
      exact State.wakeByMessage_passes sensed
    · simp only [if_pos standby, if_neg fun both : _ ∧ _ => sensed both.2]
      exact State.wakeByMessage_keeps sensed
  · simp only [if_neg standby, if_neg fun both : _ ∧ _ => standby both.1]
    rfl

/-- An arrival while RESTART is in dispatch, as the statements write it. -/
theorem LinkState.restartArrival_eq {k : LinkState} {own later : List Reply} (h : k.inDispatch = some (.restart own later))
    (m : LinkMsg) :
    k.restartArrival own later m =
      { k with
        inDispatch := if own ≠ [] ∧ k.replies.length < 8 then some (.restart own (later ++ [replyTo m .busy []]))
          else some (.restart own later)
        busyDrops := if own ≠ [] ∧ 8 ≤ k.replies.length then min 65535 (k.busyDrops + 1) else k.busyDrops } := by
  unfold LinkState.restartArrival
  rw [← h]
  cases own with
  | nil => simp
  | cons r rs =>
    by_cases room : k.replies.length < 8
    · simp [room, Nat.not_le.2 room]
    · simp [room, Nat.not_lt.1 room, saturate16]

theorem State.goodMessage_restart {own later : List Reply} (h : s.link.inDispatch = some (.restart own later)) :
    s.goodMessage m = s.setLink (s.link.restartArrival own later m) := by
  unfold State.goodMessage
  rw [h]

/-- A whole good message in time, from HUNTING, is taken as a message once its last byte has ended. -/
theorem State.receiveAll_good {rx : List RxByte} {tag kind chk : Byte} {payload : List Byte} (hp : s.link.parser = .hunting)
    (hlen : payload.length ≤ 196) (ok : ∀ b ∈ rx, b.framingError = false) (near : rx.IsChain BytesNear)
    (hrx : rx.map RxByte.data = 0xC3 :: BitVec.ofNat 8 (payload.length + 2) :: tag :: kind :: (payload ++ [chk]))
    (hsum : BitVec.ofNat 8 (payload.length + 2) + tag + kind + byteSum payload + chk = 0) :
    ∃ e now, s.receiveAll rx = (s.byteEnded e now).goodMessage ⟨tag, kind, payload⟩ := by
  have len : (BitVec.ofNat 8 (payload.length + 2)).toNat = payload.length + 2 := by
    rw [BitVec.toNat_ofNat]
    omega
  obtain ⟨e, now, last, rfl, hlast, heard⟩ := State.receiveAll_message (body := tag :: kind :: payload) hp ok near
    (by omega) (by omega) len.symm hrx
  have sum : BitVec.ofNat 8 (payload.length + 2) + byteSum (tag :: kind :: payload) + last.data = 0 := by
    rw [byteSum_cons, byteSum_cons, ← BitVec.add_assoc, ← BitVec.add_assoc]
    exact hsum
  refine ⟨e, now, ?_⟩
  rw [heard, State.parse_good rfl hlast sum, State.heard_setParser, State.heard_same hp]
  rfl

end

/-- Settles O5: by the parser's state, and by whether the timer has run out before the byte. -/
theorem byteReceivedMovesTheParser : Obligations.ByteReceivedMovesTheParser := by
  unfold Obligations.ByteReceivedMovesTheParser
  intro s b heard faulted gap begun
  refine ⟨?late, ?hunting, ?length, ?body, ?checking⟩
  case late =>
    intro n late state
    have received : s.link.parser.received = some n := by
      rcases state with ⟨hp, rfl⟩ | ⟨len, got, hp | hp, rfl⟩ <;> rw [hp]
      · rfl
      · exact congrArg some (Nat.add_comm 2 _)
      · exact congrArg some (Nat.add_comm 2 _)
    exact congrArg _ (State.receive_late late received)
  case hunting => exact fun hp => congrArg _ (State.receive_hunting hp)
  case length =>
    intro near hp
    refine congrArg _ ((State.receive_near near).trans ?_)
    rw [hp]
    exact State.parse_length rfl
  case body =>
    intro len got near hp
    have grown : Parser.after len (got ++ [b.data]) =
        if got.length + 1 < len.toNat then .body len (got ++ [b.data]) else .checking len (got ++ [b.data]) := by
      rw [Parser.after, List.length_append]
      rfl
    refine congrArg _ ((State.receive_near near).trans ?_)
    rw [hp, ← grown]
    exact State.parse_body rfl
  case checking =>
    intro len got near hp bad
    refine congrArg _ ((State.receive_near near).trans ?_)
    rw [hp]
    exact State.parse_bad rfl bad

/-- Settles O6: the run of bytes ends as a good message, and then by what is in dispatch. -/
theorem goodMessageJoinsTheBuffer : Obligations.GoodMessageJoinsTheBuffer := by
  unfold Obligations.GoodMessageJoinsTheBuffer
  intro s rx tag kind chk payload hp hlen ok near hrx hsum
  obtain ⟨e, now, arrives⟩ := State.receiveAll_good hp hlen ok near hrx hsum
  refine ⟨fun room free => ?joins, fun own later restart => ?waits⟩
  case joins =>
    have joins := State.goodMessage_joins (s := s.byteEnded e now) (m := ⟨tag, kind, payload⟩) free room
    exact ⟨_, congrArg Host.Outcome.next (arrives.trans (joins.trans (State.bufferMessage_eq _ _))), rfl⟩
  case waits =>
    have waits := State.goodMessage_restart (s := s.byteEnded e now) (m := ⟨tag, kind, payload⟩) restart
    rw [LinkState.restartArrival_eq (k := (s.byteEnded e now).link) restart] at waits
    exact ⟨_, congrArg Host.Outcome.next (arrives.trans waits), rfl⟩

/-- Settles O7: the CHK byte makes the message good, and the full buffer leaves it to the reply queue. -/
theorem fifthMessageIsAnsweredBusy : Obligations.FifthMessageIsAnsweredBusy := by
  unfold Obligations.FifthMessageIsAnsweredBusy
  intro s len chk got e hp full free sum near heard
  have inTime : ¬s.link.Late ⟨chk, false, e⟩ := Nat.not_lt.2 near
  have arrives : s.receive ⟨chk, false, e⟩ = heard.goodMessage (messageOf got) := by
    rw [State.receive_near inTime, hp]
    exact State.parse_good rfl rfl sum
  have answered := State.goodMessage_full (s := heard) (m := messageOf got) free full
  refine congrArg _ (arrives.trans (answered.trans ?_))
  unfold LinkState.busyReply
  split_ifs <;> rfl

/-- Settles O8: the last byte of the run makes the fault. -/
theorem faultyMessageIsDiscarded : Obligations.FaultyMessageIsDiscarded := by
  unfold Obligations.FaultyMessageIsDiscarded
  intro s rx hp ok near
  refine ⟨?check, ?length⟩
  case check =>
    intro len chk body hlen hlen' hbody hrx bad
    obtain ⟨e, now, last, rfl, -, heard⟩ := State.receiveAll_message hp ok near hlen hlen' hbody hrx
    have count : BitVec.ofNat 8 (body.length + 3) = len + 3 := by
      rw [hbody, BitVec.ofNat_add, BitVec.ofNat_toNat, BitVec.setWidth_eq]
      rfl
    have faulted := State.heard_linkFault s (.checking len body) e now .check (body.length + 3)
    rw [count, ← State.post_heard, State.heard_same (s := s.post _ _) ((LinkState.post_parser ..).trans hp)] at faulted
    exact ⟨_, congrArg Host.Outcome.next (heard.trans ((State.parse_bad rfl (.inr bad)).trans faulted)), rfl⟩
  case length =>
    intro len bad hrx
    obtain ⟨sof, afterSof, rfl, hsof, hafter⟩ := List.map_eq_cons_iff.1 hrx
    obtain ⟨count, rfl, rfl⟩ := List.map_eq_singleton_iff.1 hafter
    have nearLen := List.isChain_pair.1 near
    have faulted := State.heard_linkFault s .length count.endsAt (max (max s.clocks.now sof.endsAt) count.endsAt) .length 2
    rw [← State.post_heard, State.heard_same (s := s.post _ _) ((LinkState.post_parser ..).trans hp)] at faulted
    refine ⟨_, congrArg Host.Outcome.next (Eq.trans ?_ faulted), rfl⟩
    show (s.receive sof).receive count = _
    rw [State.receive_sof hp (ok sof (by simp)) hsof, State.heard_receive_near nearLen, State.parse_length rfl]
    exact if_neg (by omega)

/-- Settles O9: the timer counts SOF, LEN and the bytes after it. -/
theorem interByteTimeoutEndsTheMessage : Obligations.InterByteTimeoutEndsTheMessage := by
  unfold Obligations.InterByteTimeoutEndsTheMessage
  intro s n state
  have received : s.link.parser.received = some n := by
    rcases state with ⟨hp, rfl⟩ | ⟨len, got, hp, rfl⟩ | ⟨len, got, hp, rfl⟩ <;> rw [hp]
    · rfl
    · exact congrArg some (Nat.add_comm 2 _)
    · exact congrArg some (Nat.add_comm 2 _)
  exact congrArg _ (State.timeout_eq received)

end Sys2Proof.Machine
end

section
/-! SUPPORT. What the link's own operations do where their occasion holds: the checks of dispatch, joining, granting and the notice
mask (R169, R174, R176 to R179, R182). -/

namespace Sys2Proof.Machine

/-! ### The checks of dispatch (R174) -/

section

variable {s : State} {kind : Byte} {len : List Byte → Bool} {served : Bool} {body : LinkMsg → State → State} {m : LinkMsg}
  {rest : List LinkMsg}

/-- Check 2: a wrong length ends the command. -/
theorem State.dispatch_badLength (hd : s.link.inDispatch = none) (hp : s.power.state = .active ∨ s.power.state = .waking)
    (hb : s.link.buffer = m :: rest) (hk : m.kind = kind) (hl : len m.payload = false) :
    s.dispatch kind len served body = { s with link := s.link.answered rest m .badLength [] } := by
  unfold State.dispatch
  rw [State.frontMessage_active hd hp hb]
  dsimp only
  rw [if_pos hk, if_neg (Bool.eq_false_iff.1 hl)]
  exact State.takeFront_answer hb .badLength []

/-- Check 3: in WAKING a command that is not served there is refused. -/
theorem State.dispatch_waking (hd : s.link.inDispatch = none) (hp : s.power.state = .waking)
    (hb : s.link.buffer = m :: rest) (hk : m.kind = kind) (hl : len m.payload = true) :
    s.dispatch kind len false body = { s with link := s.link.answered rest m .waking [] } := by
  unfold State.dispatch
  rw [State.frontMessage_active hd (.inr hp) hb]
  dsimp only
  rw [if_pos hk, if_pos hl, decide_eq_true hp]
  exact State.takeFront_answer hb .waking []

end

/-- Every link command is a dispatch with the KIND, the lengths and the service in WAKING that its row of the table names. -/
theorem exec_linkCommand {c : LinkCommand} (hc : c ∈ linkCommands) :
    ∃ body, ∀ s, exec c.command s = .next (s.dispatch c.kind c.length c.waking body) := by
  simp only [linkCommands, List.mem_append, or_assoc] at hc
  rcases hc with hc | hc | hc | hc
  · fin_cases hc <;> exact ⟨_, fun _ => rfl⟩
  · fin_cases hc <;> exact ⟨_, fun _ => rfl⟩
  · fin_cases hc <;> exact ⟨_, fun _ => rfl⟩
  · fin_cases hc <;> exact ⟨_, fun _ => rfl⟩

/-! ### Replies that wait (R176, R182) -/

theorem LinkState.joinWaiting_reply {k : LinkState} {r : Reply} (h : k.inDispatch = some (.replyWaiting r))
    (room : k.replies.length < 8) : k.joinWaiting = { k with replies := k.replies ++ [r], inDispatch := none } := by
  unfold LinkState.joinWaiting
  rw [h]
  exact if_pos room

theorem LinkState.joinWaiting_restart {k : LinkState} {own later : List Reply}
    (h : k.inDispatch = some (.restart own later)) :
    k.joinWaiting =
      { k with
        replies := k.replies ++ (own ++ later).take (8 - k.replies.length)
        inDispatch := some
          (.restart (own.drop (8 - k.replies.length)) (later.drop (8 - k.replies.length - own.length))) } := by
  unfold LinkState.joinWaiting
  rw [h]

/-! ### The transmit arbiter (R169, R177, R178) -/

section

variable {k : LinkState} {t : Nat}

theorem frameBytes_length (tag kind : Byte) (payload : List Byte) :
    (frameBytes tag kind payload).length = payload.length + 5 := by
  simp [frameBytes]

/-- The oldest reply goes first. -/
theorem LinkState.grant_reply {r : Reply} {rest : List Reply} (h : k.replies = r :: rest) :
    k.grant t =
      { k with
        replies := rest
        tx := some ⟨frameBytes r.tag r.kind r.payload, t + 40 * (r.payload.length + 5)⟩ } := by
  unfold LinkState.grant
  rw [h, ← frameBytes_length r.tag r.kind r.payload]
  rfl

theorem LinkState.restarting_eq_false (h : ∀ own later, k.inDispatch ≠ some (.restart own later)) : k.restarting = false := by
  unfold LinkState.restarting
  split
  · next own later restart => exact absurd restart (h own later)
  · rfl

theorem LinkState.restarting_eq_true {own later : List Reply} (h : k.inDispatch = some (.restart own later)) :
    k.restarting = true := by
  unfold LinkState.restarting
  rw [h]

/-- With no reply the oldest notice goes, with its LOST byte. -/
theorem LinkState.grant_notice {n : Notice} {rest : List Notice} (hr : k.replies = []) (hn : k.notices = n :: rest)
    (h : k.restarting = false) :
    k.grant t =
      { k with
        notices := rest
        lost := false
        tx := some ⟨frameBytes 0 n.kind.code ((if k.lost then 1 else 0) :: n.fields), t + 40 * (n.fields.length + 6)⟩ } := by
  have length := frameBytes_length 0 n.kind.code ((if k.lost then 1 else 0) :: n.fields)
  have bytes : noticeBytes n k.lost = frameBytes 0 n.kind.code ((if k.lost then 1 else 0) :: n.fields) := by
    rw [noticeBytes, flag_eq]
    rfl
  unfold LinkState.grant
  rw [hr, hn]
  dsimp only
  rw [h, bytes, LinkState.send, length]
  rfl

/-- A grant with something to send moves the clock to the moment the line is free. -/
theorem exec_transmitGrant {s : State} (h : s.link.hasTraffic = true) :
    exec .transmitGrant s = .next
      { s with
        link := s.link.grant (max s.clocks.now s.link.lineFree)
        clocks := { s.clocks with now := max s.clocks.now s.link.lineFree } } :=
  congrArg Host.Outcome.next (if_pos h)

theorem exec_transmitGrant_idle {s : State} (h : s.link.hasTraffic = false) : exec .transmitGrant s = .next s :=
  congrArg Host.Outcome.next (if_neg (Bool.eq_false_iff.1 h))

end

/-! ### NOTICE_MASK (R179) -/

theorem flagOf_out {n : Nat} (h : 2 ≤ n) : flagOf n = none := by
  match n, h with
  | n + 2, _ => rfl

theorem parseNoticeMask_some {p : List Byte} {mask : Tab Bool 13}
    (h : ∀ k : Fin 13, p.getD k.val 0 = if mask[k] then 1 else 0) : parseNoticeMask p = some mask := by
  have field (k : Fin 13) : fieldU8 p k.val = if mask[k] then 1 else 0 := by
    rw [fieldU8, h k]
    split_ifs <;> rfl
  have valid : ((List.range 13).all fun j => (flagOf (fieldU8 p j)).isSome) = true := by
    rw [List.all_eq_true]
    intro j hj
    rw [field ⟨j, List.mem_range.1 hj⟩]
    split_ifs <;> rfl
  have enables : (Vector.ofFn fun j : Fin 13 => fieldU8 p j.val == 1) = mask := by
    refine Tab.ext_get fun k => ?_
    rw [Fin.getElem_fin, Vector.getElem_ofFn, field k]
    cases mask[k] <;> rfl
  unfold parseNoticeMask
  rw [valid, enables]
  rfl

theorem parseNoticeMask_none {p : List Byte} {k : Fin 13} (h : 2 ≤ (p.getD k.val 0).toNat) : parseNoticeMask p = none := by
  have invalid : ((List.range 13).all fun j => (flagOf (fieldU8 p j)).isSome) = false := by
    rw [List.all_eq_false]
    exact ⟨k.val, List.mem_range.2 k.isLt, by rw [fieldU8, flagOf_out h]; decide⟩
  unfold parseNoticeMask
  rw [invalid]
  rfl

/-- The enables are written beside the answer. -/
theorem LinkState.joinReply_masked (k : LinkState) (rest : List LinkMsg) (mask : Tab Bool 13) (m : LinkMsg) (status : Status)
    (fields : List Byte) :
    LinkState.joinReply { k with buffer := rest, mask := mask } (replyTo m status fields) =
      { k.answered rest m status fields with mask := mask } := by
  unfold LinkState.joinReply LinkState.answered
  dsimp only
  split_ifs <;> rfl

theorem maskBytes_eq (mask : Tab Bool 13) : maskBytes mask = (List.finRange 13).map fun k => if mask[k] then 1 else 0 := by
  unfold maskBytes
  simp only [flag_eq]
  exact List.map_eq_flatMap.symm

end Sys2Proof.Machine
end

section
/-! The step, dispatch, the reply queue and the transmit arbiter (R169, R173, R174, R176 to R179, R182). -/

namespace Sys2Proof.Machine

/-- Settles O1: a step is a match on the queue. -/
theorem stepTakesTheFrontCommand : Obligations.StepTakesTheFrontCommand := by
  unfold Obligations.StepTakesTheFrontCommand
  refine ⟨fun s c rest h => ?_, fun s h => ?_⟩
  · unfold step
    rw [h]
  · unfold step
    rw [h]

/-- Settles O10: check 1 of R174 fails, and the message taken is answered. -/
theorem unknownKindIsRefused : Obligations.UnknownKindIsRefused := by
  unfold Obligations.UnknownKindIsRefused
  intro s m rest hd hp hb unknown
  refine congrArg Host.Outcome.next ?_
  rw [State.frontMessage_active hd hp hb]
  exact (if_neg unknown).trans (State.takeFront_answer hb .badKind [])

/-- Settles O11: each link command is one dispatch, which checks the length and then WAKING. -/
theorem lengthAndWakingAreCheckedFirst : Obligations.LengthAndWakingAreCheckedFirst := by
  unfold Obligations.LengthAndWakingAreCheckedFirst
  intro c hc s m rest hd hb hk
  obtain ⟨body, runs⟩ := exec_linkCommand hc
  refine ⟨fun hp wrong => ?length, fun hp right unserved => ?waking⟩
  case length => rw [runs, State.dispatch_badLength hd hp hb hk wrong]
  case waking => rw [runs, unserved, State.dispatch_waking hd hp hb hk right]

/-- Settles O12: by what waits. -/
theorem waitingRepliesJoinTheQueue : Obligations.WaitingRepliesJoinTheQueue := by
  unfold Obligations.WaitingRepliesJoinTheQueue
  intro s
  refine ⟨fun r h room => ?reply, fun own later h => ?restart⟩
  case reply => exact congrArg (fun k => Host.Outcome.next (s.setLink k)) (LinkState.joinWaiting_reply h room)
  case restart => exact congrArg (fun k => Host.Outcome.next (s.setLink k)) (LinkState.joinWaiting_restart h)

/-- Settles O13: by what the queues hold; the bytes are those of a frame. -/
theorem transmitGrantSendsRepliesFirst : Obligations.TransmitGrantSendsRepliesFirst := by
  unfold Obligations.TransmitGrantSendsRepliesFirst
  refine ⟨fun s now hnow => ⟨fun r rest hr => ?reply, fun n rest hr hn free => ?notice, fun own later hr restart => ?silent⟩,
    fun tag kind payload => ⟨⟨_, rfl⟩, byteSum_frameBytes tag kind payload⟩⟩
  case reply =>
    have traffic : s.link.hasTraffic = true := by rw [LinkState.hasTraffic, hr]; rfl
    rw [exec_transmitGrant traffic, LinkState.grant_reply hr, hnow]
    rfl
  case notice =>
    have quiet := LinkState.restarting_eq_false free
    have traffic : s.link.hasTraffic = true := by rw [LinkState.hasTraffic, hr, hn, quiet]; rfl
    rw [exec_transmitGrant traffic, LinkState.grant_notice hr hn quiet, hnow]
    rfl
  case silent =>
    refine exec_transmitGrant_idle ?_
    rw [LinkState.hasTraffic, hr, LinkState.restarting_eq_true restart, Bool.not_true, Bool.and_false]
    rfl

/-- Settles O15: the payload is 13 flags, or one of them is out of range. -/
theorem noticeMaskWritesThirteenEnables : Obligations.NoticeMaskWritesThirteenEnables := by
  unfold Obligations.NoticeMaskWritesThirteenEnables
  intro s m rest h
  refine ⟨fun mask flags => ?write, fun k out => ?range⟩
  case write =>
    have rule : cmdNoticeMask m s.takeFront =
        (s.takeFront.setLink { s.takeFront.link with mask := mask }).answer m .ok (maskBytes s.link.mask) := by
      unfold cmdNoticeMask
      rw [parseNoticeMask_some flags]
      rfl
    show Host.Outcome.next (s.dispatch _ _ _ _) = _
    rw [State.dispatch_takes h, rule, maskBytes_eq, h.takeFront_eq, ← LinkState.joinReply_masked]
    rfl
  case range =>
    refine h.answers rfl ?_
    unfold cmdNoticeMask
    rw [parseNoticeMask_none out]
    rfl

/-- Settles O16: RESTART empties the buffer, and as many of its replies as fit join at once. -/
theorem restartAnswersTheBuffer : Obligations.RestartAnswersTheBuffer := by
  unfold Obligations.RestartAnswersTheBuffer
  intro s m rest h ws
  show Host.Outcome.next (s.dispatch _ _ _ _) = _
  rw [State.dispatch_takes h, h.takeFront_eq]
  unfold cmdRestart LinkState.beginRestart
  rw [LinkState.joinWaiting_restart rfl, List.append_nil, List.drop_nil]
  rfl

end Sys2Proof.Machine
end

section
/-! SUPPORT. The operands and the fields of the reads, byte by byte (R14, R54, R74, R97, R117, R123, R166, R175, R180). -/

namespace Sys2Proof.Machine

/-! ### The operands of the three reads with a selector or a flag (R175) -/

section

variable {p : List Byte}

theorem parseMemoryRead_plain (h : fieldU8 p 0 = 0) : parseMemoryRead p = some none := by
  unfold parseMemoryRead
  rw [h]
  rfl

theorem parseMemoryRead_track (h : fieldU8 p 0 = 1) : parseMemoryRead p = (idOf 64 (fieldU8 p 1)).map some := by
  unfold parseMemoryRead
  rw [h]
  cases idOf 64 (fieldU8 p 1) <;> rfl

theorem parseInputsRead_lines (h : fieldU8 p 0 = 0) : parseInputsRead p = some none := by
  unfold parseInputsRead
  rw [h]
  rfl

theorem parseInputsRead_bindings (h : fieldU8 p 0 = 1) :
    parseInputsRead p =
      if 1 ≤ fieldU8 p 2 ∧ fieldU8 p 2 ≤ 16 ∧ fieldU8 p 1 + fieldU8 p 2 ≤ 32 then some (some (fieldU8 p 1, fieldU8 p 2))
      else none := by
  have inTable : (fieldU8 p 1 ≤ 31 ∧ 1 ≤ fieldU8 p 2 ∧ fieldU8 p 2 ≤ 16 ∧ fieldU8 p 1 + fieldU8 p 2 ≤ 32) ↔
      (1 ≤ fieldU8 p 2 ∧ fieldU8 p 2 ≤ 16 ∧ fieldU8 p 1 + fieldU8 p 2 ≤ 32) := by omega
  unfold parseInputsRead checkThat
  simp only [h, inTable, decide_eq_true_eq]
  split_ifs <;> rfl

theorem parseCalRead_level (h : fieldU8 p 0 = 1) : parseCalRead p = some none := by
  unfold parseCalRead
  rw [h]
  rfl

theorem parseCalRead_set {n : SetId} (h : fieldU8 p 0 = 0) (hn : fieldU8 p 2 = n.val) (hw : fieldU8 p 1 ≤ 1) :
    parseCalRead p = some (some (decide (fieldU8 p 1 = 1), n)) := by
  unfold parseCalRead
  rw [h, idOf_val hn]
  rcases Nat.le_one_iff_eq_zero_or_eq_one.1 hw with hw | hw <;> rw [hw] <;> rfl

theorem parseCalRead_range (h : fieldU8 p 0 = 0) (out : 2 ≤ fieldU8 p 1 ∨ 8 ≤ fieldU8 p 2) : parseCalRead p = none := by
  unfold parseCalRead
  rw [h]
  rcases out with hw | hn
  · rw [flagOf_out hw]
    rfl
  · rw [idOf_out hn]
    cases flagOf (fieldU8 p 1) <;> rfl

theorem parseReads_out (h : 2 ≤ fieldU8 p 0) :
    parseMemoryRead p = none ∧ parseInputsRead p = none ∧ parseCalRead p = none := by
  unfold parseMemoryRead parseInputsRead parseCalRead
  rw [flagOf_out h]
  exact ⟨rfl, rfl, rfl⟩

end

/-! ### The reads, each by its operand -/

section

variable (m : LinkMsg) (s : State)

theorem cmdZoneRead_eq : cmdZoneRead m s =
    (idOf 16 (fieldU8 m.payload 0)).elim (s.answer m .range []) fun z => s.answer m .ok (s.zoneFields z) := by
  unfold cmdZoneRead
  cases idOf 16 (fieldU8 m.payload 0) <;> rfl

theorem cmdStackRead_eq : cmdStackRead m s =
    (idOf 16 (fieldU8 m.payload 0)).elim (s.answer m .range []) fun z => s.answer m .ok (s.stackFields z) := by
  unfold cmdStackRead
  cases idOf 16 (fieldU8 m.payload 0) <;> rfl

theorem cmdMemoryRead_eq : cmdMemoryRead m s =
    (parseMemoryRead m.payload).elim (s.answer m .range []) fun k => s.answer m .ok (s.memoryFields k) := by
  unfold cmdMemoryRead
  cases parseMemoryRead m.payload <;> rfl

theorem cmdPlayerRead_eq : cmdPlayerRead m s =
    (idOf 16 (fieldU8 m.payload 0)).elim (s.answer m .range []) fun p =>
      s.answer m .ok (s.players[p].fields s.pattern) := by
  unfold cmdPlayerRead
  cases idOf 16 (fieldU8 m.payload 0) <;> rfl

/-- The fields of INPUTS_READ: LINES, or a run of bindings. -/
def State.inputFields (s : State) : Option (Nat × Nat) → List Byte
  | none => s.lineFields
  | some (first, count) => s.bindingFields first count

theorem cmdInputsRead_eq : cmdInputsRead m s =
    (parseInputsRead m.payload).elim (s.answer m .range []) fun o => s.answer m .ok (s.inputFields o) := by
  unfold cmdInputsRead
  rcases parseInputsRead m.payload with _ | _ | ⟨first, count⟩ <;> rfl

/-- The fields of CAL_READ: LEVEL, or one set. -/
def State.calFields (s : State) : Option (Bool × SetId) → List Byte
  | none => s.cal.levelFields s.sense.band.band
  | some (working, n) => s.cal.setFields working n

theorem cmdCalRead_eq : cmdCalRead m s =
    (parseCalRead m.payload).elim (s.answer m .range []) fun o => s.answer m .ok (s.calFields o) := by
  unfold cmdCalRead
  rcases parseCalRead m.payload with _ | _ | ⟨working, n⟩ <;> rfl

end

section

variable {s : State} {m : LinkMsg} {rest : List LinkMsg} {kind : Byte} {len : List Byte → Bool} {c : Instr}
  {body : LinkMsg → State → State} {α : Type} {operand : Option α} {fields : α → List Byte}

/-- A read with its operand in range answers the fields. -/
theorem State.TakesRead.reads {x : α} (h : s.TakesRead kind len m rest) (hx : operand = some x)
    (hc : exec c s = .next (s.dispatch kind len true body))
    (hb : body m s.takeFront =
      operand.elim (s.takeFront.answer m .range []) fun x => s.takeFront.answer m .ok (fields x)) :
    exec c s = .next { s with link := s.link.answered rest m .ok (fields x) } :=
  h.answers hc (by rw [hb, hx]; rfl)

/-- A read with its operand out of range answers RANGE. -/
theorem State.TakesRead.refuses (h : s.TakesRead kind len m rest) (hx : operand = none)
    (hc : exec c s = .next (s.dispatch kind len true body))
    (hb : body m s.takeFront =
      operand.elim (s.takeFront.answer m .range []) fun x => s.takeFront.answer m .ok (fields x)) :
    exec c s = .next { s with link := s.link.answered rest m .range [] } :=
  h.answers hc (by rw [hb, hx]; rfl)

theorem exec_statusRead (h : s.TakesRead kindStatusRead (lenIs 0) m rest) :
    exec .statusRead s = .next
      { s with link := s.link.answered rest m .ok ({ s with link := { s.link with buffer := rest } } : State).statusFields } := by
  have taken : s.takeFront.statusFields = ({ s with link := { s.link with buffer := rest } } : State).statusFields := by
    obtain ⟨-, -, hb, -, -⟩ := h
    unfold State.takeFront
    rw [hb]
    rfl
  exact h.answers rfl (by rw [← taken]; rfl)

end

/-! ### The fields (R175) -/

/-- A table in the order of its indices is its list. -/
theorem Tab.flatMap_finRange {α β : Type} {n : Nat} (t : Tab α n) (f : α → List β) :
    ((List.finRange n).flatMap fun i => f t[i]) = t.toList.flatMap f := by
  have table : t = Vector.ofFn fun i : Fin n => t[i] := Vector.ext fun i hi => by rw [Vector.getElem_ofFn]; rfl
  conv_rhs => rw [table, Vector.toList_ofFn, List.ofFn_eq_map, List.flatMap_map]

theorem State.statusFields_eq (s : State) :
    s.statusFields =
      u8 s.power.state.code ++ u8 s.link.buffer.length ++ u8 s.link.replies.length ++ u8 s.link.notices.length ++
        flag s.link.lost ++ s.link.mask.toList.flatMap flag ++ u16 s.link.busyDrops ++
        s.lanes.toList.flatMap (fun x => u8 x.state.code) ++ u8 s.engine.queue.length ++
        s.engine.queue.flatMap (fun r => u8 r.lane.val) ++ optional laneByte (s.engine.job.map Job.lane) := by
  unfold State.statusFields counted
  rw [Tab.flatMap_finRange, Tab.flatMap_finRange (f := fun x : Lane => u8 x.state.code)]
  simp only [List.append_assoc]
  rfl

theorem trackStateCode_eq (o : Option Track) :
    trackStateCode o = match o with
      | none => 0
      | some t => if t.damage ≠ [] ∨ t.rewrite ≠ none then 2 else 1 := by
  cases o with
  | none => rfl
  | some t => simp [trackStateCode, Track.damaged, Option.isSome_iff_ne_none]

/-- How many players name a track, with the test written out. -/
theorem State.namers_eq (s : State) (k : TrackId) :
    s.namers k = (List.finRange 16).countP fun p => decide (s.players[p].settings.track = some k ∨
      ∃ st ∈ s.players[p].staged, st.track = some k) := by
  unfold State.namers
  refine congrArg (List.countP · _) (funext fun p => Bool.eq_iff_iff.2 ?_)
  simp [Player.names, Option.any_eq_true]

theorem State.memoryFields_eq (s : State) (asked : Option TrackId) :
    s.memoryFields asked =
      u8 s.pattern.free.length ++ (s.pattern.free.take 1).flatMap (fun b => u8 b.val) ++
        s.pattern.tracks.toList.flatMap (fun t => u8 (trackStateCode t)) ++
        asked.elim [] fun k => s.pattern.tracks[k].elim [] (s.trackRecordFields k) := by
  have record : ∀ k : TrackId, (match s.pattern.tracks[k] with | none => [] | some t => s.trackRecordFields k t) =
      s.pattern.tracks[k].elim [] (s.trackRecordFields k) := fun k => by cases s.pattern.tracks[k] <;> rfl
  unfold State.memoryFields
  rw [Tab.flatMap_finRange (f := fun t => u8 (trackStateCode t))]
  cases asked with
  | none => cases s.pattern.free <;> rfl
  | some k =>
    refine congrArg₂ (· ++ ·) ?_ (record k)
    cases s.pattern.free <;> rfl

/-- The end point, where the reply has it (R97). -/
theorem endPointFields_eq (pm : PatternMemory) (st : Settings) :
    endPointFields pm st =
      if (st.track.bind fun k => pm.tracks[k]) = none ∨ st.Endless then []
      else u32 (st.lastPoint (((st.track.bind fun k => pm.tracks[k]).map Track.duration).getD 0)) := by
  have named : pm.trackOf st = st.track.bind fun k => pm.tracks[k] := by
    unfold PatternMemory.trackOf
    cases st.track <;> rfl
  unfold endPointFields
  rw [named]
  cases st.track.bind fun k => pm.tracks[k] with
  | none => rfl
  | some t =>
    dsimp only
    rw [Settings.endPoint_eq]
    by_cases h : st.Endless
    · rw [if_pos h, if_pos (.inr h)]
    · rw [if_neg h, if_neg fun silent => silent.elim (nomatch ·) h]
      rfl

theorem keyRun_length (first count : Nat) : (keyRun first count).length = count := by
  rw [keyRun, List.length_map, List.length_range]

/-- The indices of a run that lies within the table, in ascending order. -/
theorem keyRun_eq_filter {first count n : Nat} (h : first + count ≤ n) :
    keyRun first count =
      ((List.finRange n).filter fun i => decide (first ≤ i.val ∧ i.val < first + count)).map Fin.val := by
  obtain ⟨after, rfl⟩ := Nat.exists_eq_add_of_le h
  have parts : List.range (first + count + after) =
      List.range first ++ List.range' first count ++ List.range' (first + count) after := by
    rw [List.range_eq_range', List.range_eq_range', ← List.range'_append_1, ← List.range'_append_1, Nat.zero_add,
      Nat.zero_add]
  have below : (List.range first).filter (fun i => decide (first ≤ i ∧ i < first + count)) = [] :=
    List.filter_eq_nil_iff.2 fun i hi => by
      rw [List.mem_range] at hi
      rw [decide_eq_true_eq]
      omega
  have above : (List.range' (first + count) after).filter (fun i => decide (first ≤ i ∧ i < first + count)) = [] :=
    List.filter_eq_nil_iff.2 fun i hi => by
      rw [List.mem_range'_1] at hi
      rw [decide_eq_true_eq]
      omega
  have within : (List.range' first count).filter (fun i => decide (first ≤ i ∧ i < first + count)) = List.range' first count :=
    List.filter_eq_self.2 fun i hi => decide_eq_true (List.mem_range'_1.1 hi)
  calc keyRun first count
    _ = List.range' first count := (List.range'_eq_map_range ..).symm
    _ = (List.range (first + count + after)).filter fun i => decide (first ≤ i ∧ i < first + count) := by
      rw [parts, List.filter_append, List.filter_append, below, within, above, List.append_nil, List.nil_append]
    _ = _ := by rw [← List.map_coe_finRange_eq_range, List.filter_map]; rfl

/-- BINDINGS as a run of the table's own indices. -/
theorem State.bindingFields_eq (s : State) {first count : Nat} (h : first + count ≤ 32) :
    s.bindingFields first count =
      u8 count ++ ((List.finRange 32).filter fun i => decide (first ≤ i.val ∧ i.val < first + count)).flatMap fun i =>
        bindingEntry i.val s.bindings[i] := by
  have entry (i : BindingId) : s.bindingAt i.val = s.bindings[i] := dif_pos i.isLt
  unfold State.bindingFields counted
  rw [keyRun_length, keyRun_eq_filter h, List.flatMap_map]
  simp only [entry]

end Sys2Proof.Machine
end

section
/-! The reads of no side effect (R175, R180). -/

namespace Sys2Proof.Machine

/-- Settles O14: each read by its operand, each operand by its bytes, each code by its constructor, and each reply field by field. -/
theorem readsAnswerAndChangeNothing : Obligations.ReadsAnswerAndChangeNothing := by
  unfold Obligations.ReadsAnswerAndChangeNothing
  refine ⟨?reads, ?operands, ?codes, ?bytes⟩
  case reads =>
    intro s m rest answered refused
    refine ⟨exec_statusRead, ?zone, ?stack, ?memory, ?player, ?lines, ?bindings, ?level, ?set, ?sense, ?zoneRange, ?stackRange,
      ?playerRange, ?memoryRange, ?inputsRange, ?calRange⟩
    case zone => exact fun z h hz => h.reads hz rfl (cmdZoneRead_eq ..)
    case stack => exact fun z h hz => h.reads hz rfl (cmdStackRead_eq ..)
    case memory => exact fun k h hk => h.reads hk rfl (cmdMemoryRead_eq ..)
    case player =>
      exact fun p h hp => h.reads (fields := fun p => s.players[p].fields s.pattern) hp rfl (cmdPlayerRead_eq ..)
    case lines => exact fun h hl => h.reads (fields := s.inputFields) hl rfl (cmdInputsRead_eq ..)
    case bindings => exact fun first count h hb => h.reads (fields := s.inputFields) hb rfl (cmdInputsRead_eq ..)
    case level => exact fun h hl => h.reads (fields := s.calFields) hl rfl (cmdCalRead_eq ..)
    case set => exact fun working n h hn => h.reads (fields := s.calFields) hn rfl (cmdCalRead_eq ..)
    case sense => exact fun h => h.answers rfl rfl
    case zoneRange => exact fun h out => h.refuses (idOf_out out) rfl (cmdZoneRead_eq ..)
    case stackRange => exact fun h out => h.refuses (idOf_out out) rfl (cmdStackRead_eq ..)
    case playerRange => exact fun h out => h.refuses (idOf_out out) rfl (cmdPlayerRead_eq ..)
    case memoryRange => exact fun h out => h.refuses out rfl (cmdMemoryRead_eq ..)
    case inputsRange => exact fun h out => h.refuses out rfl (cmdInputsRead_eq ..)
    case calRange => exact fun h out => h.refuses out rfl (cmdCalRead_eq ..)
  case operands =>
    intro p a b c
    exact ⟨fun h => ⟨parseMemoryRead_plain h, parseInputsRead_lines h⟩, parseCalRead_level,
      fun h k hk => (parseMemoryRead_track h).trans (by rw [idOf_val hk]; rfl),
      fun h out => (parseMemoryRead_track h).trans (by rw [idOf_out out]; rfl), parseInputsRead_bindings,
      fun h n hn hw => parseCalRead_set h hn hw, parseCalRead_range, parseReads_out⟩
  case codes =>
    exact ⟨rfl, rfl, rfl, rfl, fun _ _ _ => ⟨rfl, rfl, rfl⟩, rfl, rfl, rfl, rfl, rfl, rfl, rfl, rfl, fun _ _ => ⟨rfl, rfl⟩, rfl,
      rfl, rfl, rfl, rfl, rfl⟩
  case bytes =>
    intro b1 b2 b4 signed signed2 yes colour
    refine ⟨?status, ?zone, ?stack, ?memory, ?player, ?lines, ?bindings, ?levels, ?sets, ?sense⟩
    case status =>
      intro s
      have flags : flag = yes := funext flag_eq
      rw [State.statusFields_eq, flags]
      cases s.engine.job <;> rfl
    case zone => exact fun s z => rfl
    case stack =>
      intro s z
      refine congrArg (u8 _ ++ List.flatMap · _) (funext fun l => ?_)
      unfold State.stackEntry
      cases s.layers[l] with
      | none => rfl
      | some x =>
        obtain ⟨state, zone, priority, source, blend, opacity, range, sweep, step, fadeTime, pos⟩ := x
        cases source <;> cases range <;> rfl
    case memory =>
      intro s asked state
      have states : trackStateCode = state := funext trackStateCode_eq
      rw [State.memoryFields_eq, states]
      refine congrArg (List.append _) ?_
      cases asked with
      | none => rfl
      | some k =>
        dsimp only [Option.elim_some]
        cases s.pattern.tracks[k] with
        | none => rfl
        | some t =>
          dsimp only [Option.elim_some]
          unfold State.trackRecordFields counted
          rw [State.namers_eq]
          cases t.rewrite <;> simp only [List.append_assoc] <;> rfl
    case player =>
      intro x pm track hold st endless duration
      have tracks : optional trackByte = track := funext fun k => by cases k <;> rfl
      have holds : optional u16 = hold := funext fun h => by cases h <;> rfl
      have flags : flag = yes := funext flag_eq
      unfold Player.fields Player.stateFields Settings.fields
      rw [endPointFields_eq, tracks, holds, flags, u32_eq, u32_eq]
      cases x.windowLeft <;> cases x.staged <;> rfl
    case lines =>
      intro s
      have line : LineRec.fields = fun x : LineRec => b1 x.mode.code ++ b1 x.filter ++ yes x.wake ++
          (match x.level with
           | none => yes false
           | some v => yes true ++ yes v) ++ b1 x.changes := funext fun x => by
        unfold LineRec.fields
        rw [flag_eq]
        rcases x.level with _ | _ | _ <;> rfl
      unfold State.lineFields counted
      rw [Tab.flatMap_finRange, line]
      cases s.wheel.lastPair <;> cases s.wheel.lastDir <;> simp only [List.append_assoc] <;> rfl
    case bindings =>
      intro s first count h
      rw [State.bindingFields_eq s h]
      refine congrArg (u8 _ ++ List.flatMap · _) (funext fun i => ?_)
      unfold bindingEntry
      cases s.bindings[i] with
      | none => rfl
      | some b =>
        dsimp only
        unfold Binding.fields
        rw [flag_eq]
        rfl
    case levels =>
      intro c band factor
      unfold CalStore.levelFields
      rw [Tab.flatMap_finRange]
      cases band <;> rfl
    case sets =>
      intro c working n x
      unfold CalStore.setFields
      rw [flag_eq]
      rfl
    case sense =>
      intro x degrees last
      have lasts : optional codeField = last := funext fun code => by cases code <;> rfl
      have converted : ∀ code : Option (BitVec 12), code.elim 25 tempOf = degrees code := fun code => by cases code <;> rfl
      unfold SenseMonitor.fields SenseMonitor.channelFields SupplyRec.fields BandRec.fields
      rw [Tab.flatMap_finRange, lasts]
      unfold ThermalRec.fields
      simp only [converted, List.append_assoc]
      cases x.codes[(4 : ChannelId)] <;> cases x.codes[(5 : ChannelId)] <;> cases x.band.candidate <;> rfl

end Sys2Proof.Machine
end

section
/-! SUPPORT. The values after a reset, table by table, and the laws that they meet (R189, R190). -/

namespace Sys2Proof.Machine

/-! ### The values -/

section
variable {cause : Byte} {now : Nat} {pattern : PatternMemory} {cal : CalStore} {q : List Instr}

theorem State.afterReset_zones (z : ZoneId) :
    (State.afterReset cause now pattern cal q).zones[z] = ZoneRec.undefined := Vector.getElem_replicate ..

theorem State.afterReset_layers (l : LayerId) :
    (State.afterReset cause now pattern cal q).layers[l] = none := Vector.getElem_replicate ..

theorem State.afterReset_zoneStacks (z : ZoneId) :
    (State.afterReset cause now pattern cal q).zoneStacks[z] = [] := Vector.getElem_replicate ..

theorem State.afterReset_players (p : PlayerId) :
    (State.afterReset cause now pattern cal q).players[p] = Player.reset := Vector.getElem_replicate ..

theorem State.afterReset_lines (i : LineId) :
    (State.afterReset cause now pattern cal q).lines[i] = LineRec.reset := Vector.getElem_replicate ..

theorem State.afterReset_bindings (b : BindingId) :
    (State.afterReset cause now pattern cal q).bindings[b] = none := Vector.getElem_replicate ..

theorem State.afterReset_lanes (l : LaneId) :
    (State.afterReset cause now pattern cal q).lanes[l] = Lane.reset := Vector.getElem_replicate ..

end

theorem SenseMonitor.reset_codes (c : ChannelId) : SenseMonitor.reset.codes[c] = none := Vector.getElem_replicate ..

theorem SenseMonitor.reset_thermal (l : LaneId) : SenseMonitor.reset.thermal[l] = ThermalRec.reset :=
  Vector.getElem_replicate ..

theorem LinkState.reset_mask (cause : Byte) (k : Fin 13) : (LinkState.reset cause).mask[k] = true :=
  Vector.getElem_replicate ..

theorem CalStore.powerOn_curve (factory : Tab CalSet 8) (i : Fin 64) :
    (CalStore.powerOn factory).curve[i] = CalStore.defaultEntry i.val := Vector.getElem_ofFn ..

theorem PatternMemory.powerOn_tracks (k : TrackId) : PatternMemory.powerOn.tracks[k] = none :=
  Vector.getElem_replicate ..

/-- No track owns a block, so that every block is on the free-block list (R76). -/
theorem PatternMemory.powerOn_allBlocks : PatternMemory.powerOn.allBlocks = List.finRange 128 := by
  have owned : ((List.finRange 64).flatMap fun k => (PatternMemory.powerOn.tracks[k].map Track.chain).getD []) = [] :=
    List.flatMap_eq_nil_iff.2 fun k _ => by rw [PatternMemory.powerOn_tracks]; rfl
  unfold PatternMemory.allBlocks
  rw [owned, List.append_nil]
  rfl

/-! ### The laws of the blocks that either reset sets -/

theorem LinkState.reset_bounded (cause : Byte) : (LinkState.reset cause).Bounded :=
  ⟨Nat.zero_le _, Nat.zero_le _, Nat.le_add_left 1 15⟩

theorem PowerCtl.reset_onePerLine : PowerCtl.reset.OnePerLine := List.nodup_nil

theorem Engine.idle_lawful : (⟨[], none⟩ : Engine).Lawful := ⟨List.nodup_nil, fun _ => rfl⟩

section
variable {cause : Byte} {now : Nat} {pattern : PatternMemory} {cal : CalStore} {q : List Instr}

/-- After a reset every layer is FREE, so that no record of one breaks a law. -/
theorem State.afterReset_not_placed {l : LayerId} {x : LayerRec} :
    x ∉ (State.afterReset cause now pattern cal q).layers[l] := by
  rw [State.afterReset_layers]
  exact Option.not_mem_none x

theorem State.afterReset_stackLaws : (State.afterReset cause now pattern cal q).StackLaws := by
  refine ⟨fun z => ?owned, fun z => ?bounded, fun z => ?ordered, fun l x placed => ?onZones⟩
  case owned =>
    rw [State.afterReset_zoneStacks]
    refine ⟨List.nodup_nil, fun l => ?_⟩
    rw [State.afterReset_layers]
    exact iff_of_false List.not_mem_nil nofun
  case bounded =>
    rw [State.afterReset_zoneStacks]
    exact Nat.zero_le 6
  case ordered =>
    rw [State.afterReset_zoneStacks]
    exact List.Pairwise.nil
  case onZones => exact absurd placed State.afterReset_not_placed

theorem State.afterReset_fadesOk : (State.afterReset cause now pattern cal q).FadesOk :=
  fun _ _ placed => absurd placed State.afterReset_not_placed

/-- After a reset every player is IDLE, whatever pattern memory holds. -/
theorem State.afterReset_playersOnTracks : (State.afterReset cause now pattern cal q).PlayersOnTracks := by
  intro p running
  rw [State.afterReset_players] at running
  exact absurd rfl running

/-- A player after a reset names no track (R77, R99). -/
theorem Player.reset_names (k : TrackId) : Player.reset.names k = false := rfl

theorem State.afterReset_namedTracksHeld : (State.afterReset cause now pattern cal q).NamedTracksHeld := by
  intro p
  rw [State.afterReset_players]
  refine ⟨fun k named => ?_, nofun⟩
  rw [Player.reset_names] at named
  exact absurd named Bool.false_ne_true

/-- After a reset no command is in dispatch. -/
theorem State.afterReset_heldWriteChecked : (State.afterReset cause now pattern cal q).HeldWriteChecked := nofun

end

/-! ### The laws of pattern memory after a power-on reset -/

/-- Every track is FREE (R76), so that no record of one breaks a law. -/
theorem PatternMemory.powerOn_not_used {k : TrackId} {t : Track} : t ∉ PatternMemory.powerOn.tracks[k] := by
  rw [PatternMemory.powerOn_tracks]
  exact Option.not_mem_none t

theorem PatternMemory.powerOn_keysInOrder : PatternMemory.powerOn.KeysInOrder :=
  fun _ _ used => absurd used PatternMemory.powerOn_not_used

theorem PatternMemory.powerOn_blocksOwned : PatternMemory.powerOn.BlocksOwned := by
  intro b
  rw [PatternMemory.powerOn_allBlocks]
  exact List.count_eq_one_of_mem (List.nodup_finRange 128) (List.mem_finRange b)

theorem PatternMemory.powerOn_chainsFit : PatternMemory.powerOn.ChainsFit :=
  ⟨fun _ _ used => absurd used PatternMemory.powerOn_not_used, List.pairwise_lt_finRange 128⟩

theorem State.reset_patternLaws : State.reset.PatternLaws :=
  ⟨PatternMemory.powerOn_keysInOrder, PatternMemory.powerOn_blocksOwned, PatternMemory.powerOn_chainsFit,
    State.afterReset_playersOnTracks, State.afterReset_namedTracksHeld, State.afterReset_heldWriteChecked⟩

end Sys2Proof.Machine
end

section
/-! The two resets as the statements write them. -/

namespace Sys2Proof.Machine

/-! ### The two resets as commands -/

theorem exec_powerOnReset (s : State) :
    exec .powerOnReset s =
      .next (State.afterReset 0 0 PatternMemory.powerOn (CalStore.powerOn s.cal.factory) s.pending) := rfl

theorem LinkState.drained_iff {k : LinkState} :
    k.drained = true ↔ k.inDispatch = some (.restart [] []) ∧ k.replies = [] := by
  simp only [LinkState.drained, Bool.and_eq_true, decide_eq_true_eq, List.isEmpty_iff]

/-- Once the replies have been sent, the reset comes when the line is free (R190). -/
theorem exec_restartReset_of_drained {s : State} (h : s.link.drained = true) :
    exec .restartReset s =
      .next (State.afterReset 1 (max s.clocks.now s.link.lineFree) s.pattern s.cal.restarted s.pending) :=
  congrArg Host.Outcome.next (if_pos h)

theorem LinkState.endsAt_le_lineFree {k : LinkState} {x : Transmission} (h : x ∈ k.tx) : x.endsAt ≤ k.lineFree := by
  unfold LinkState.lineFree
  rw [Option.mem_def.1 h]
  exact le_rfl

/-! ### The statements -/

/-- Settles O2, block by block in the order of the statement. -/
theorem powerOnResetValues : Obligations.PowerOnResetValues := by
  refine ⟨fun z => ⟨State.afterReset_zones z, State.afterReset_zoneStacks z⟩, State.afterReset_layers,
    PatternMemory.powerOn_tracks, List.map_coe_finRange_eq_range, State.afterReset_players, State.afterReset_lines, rfl,
    State.afterReset_bindings, fun _ => rfl, CalStore.powerOn_curve _, rfl, rfl, fun l => ?lanes, rfl,
    SenseMonitor.reset_codes, SenseMonitor.reset_thermal, rfl, rfl, rfl, ?link⟩
  case lanes =>
    have lane : State.reset.lanes[l] = Lane.reset := State.afterReset_lanes l
    rw [lane]
    decide
  case link => exact ⟨rfl, rfl, rfl, rfl, rfl, rfl, rfl, LinkState.reset_mask 0, rfl, rfl⟩

/-- Settles O3: State.reset is this reset of a part with the factory sets of the configuration and an empty queue. -/
theorem powerOnResetCompletes : Obligations.PowerOnResetCompletes := exec_powerOnReset

/-- Settles O4: the replies are drained, so the reset takes place, and no earlier than the end of the message being sent. -/
theorem restartResetKeepsPatternAndCalibration : Obligations.RestartResetKeepsPatternAndCalibration := by
  intro s waiting sent
  have drained : s.link.drained = true := LinkState.drained_iff.2 ⟨waiting, sent⟩
  have ends : ∀ x ∈ s.link.tx, x.endsAt ≤ max s.clocks.now s.link.lineFree := fun _ hx =>
    (LinkState.endsAt_le_lineFree hx).trans (Nat.le_max_right ..)
  refine ⟨_, exec_restartReset_of_drained drained, rfl, rfl, rfl, rfl, rfl, rfl, ?otherBlocks⟩
  case otherBlocks => exact ⟨rfl, rfl, rfl, rfl, rfl, rfl, rfl, rfl, rfl, rfl, rfl, rfl, rfl, rfl, rfl, ends⟩

/-- Settles O60: a reset leaves the laws' blocks empty, or at values that the laws allow. -/
theorem resetMeetsEveryLaw : Obligations.ResetMeetsEveryLaw := by
  obtain ⟨zoneLaws, chains⟩ := State.afterReset_zoneLaws 0 0 PatternMemory.powerOn (CalStore.powerOn CalStore.factorySets) []
  have stackLaws : State.reset.StackLaws := State.afterReset_stackLaws
  have fades : State.reset.FadesOk := State.afterReset_fadesOk
  exact ⟨⟨LinkState.reset_bounded 0, PowerCtl.reset_onePerLine⟩, Engine.idle_lawful, State.afterReset_countsOk _ _ _ _ _,
    zoneLaws, chains, stackLaws, fades, State.reset_patternLaws⟩

end Sys2Proof.Machine
end
